-- ==== Sys2Proof/Word.lean ====
section
/-! DEFINITION. The word types of DVMX: a byte, and the widths of the operand registers. -/

namespace Sys2Proof

/-- A byte (R60: "a byte is 8 bits"). -/
abbrev Byte := BitVec 8

/-- A 16-bit value: operand `B`, a PCM sample. -/
abbrev Half := BitVec 16

/-- A 64-bit counter value (`CTR_BITS`, R6, R23). -/
abbrev Counter := BitVec 64

/-- A frame, a video unit or a PCM buffer while a command works on it: a plain byte array (R9, R60). -/
abbrev Buffer := Array Byte

end Sys2Proof
end

