-- ==== Sys2Proof/Config.lean ====
section
/-! DEFINITION. The configuration record `CFG` of R6, the profile record of R40, when a configuration is
well-formed (R7), the test for it, and the one open parameter. The values of the default configuration stand
in Sys2Proof/Machine/Tables.lean; the machine of any configuration is built in
Sys2Proof/Machine/Configured.lean. -/

namespace Sys2Proof

/-- The pack kinds of the selector map (R112), the sentinel among them. -/
inductive PackKind
  | hdr | tc | audioSource | audioControl | audioRecDate | audioRecTime
  | videoSource | videoControl | videoRecDate | videoRecTime | nopack
deriving DecidableEq, Repr

/-- The five section types of a block id (R106). -/
inductive Section
  | header | subcode | aux | audio | video
deriving DecidableEq, Repr

/-- A profile: the immutable constants of R40. -/
structure Profile where
  /-- channel count, 1 or 2 -/
  C : Nat
  /-- segments per channel, 10 or 12 -/
  S : Nat
  /-- frame size in bytes -/
  frameSize : Nat
  rateNum : Nat
  rateDen : Nat
  /-- the timecode divisor: frames per timecode second -/
  ltc : Nat
  /-- whether the drop-frame correction applies -/
  drop : Bool
  /-- field-rate flag: false for 60-field, true for 50-field -/
  dsf : Bool
  /-- signal-type code of the video source pack, 5 bits -/
  vstype : Nat
  /-- minimum sample count by frequency code -/
  mins : List Nat
  /-- the per-frame sample-count sequence -/
  dist : List Nat
  /-- factor on the slot number inside an audio block (`SHUF_STEP`) -/
  slotStep : Nat
  /-- factor on the shuffle table entry (`SHUF_STRIDE`) -/
  stride : Nat
  /-- the shuffle table, by segment and sequence number -/
  shuf : List (List Nat)
deriving DecidableEq, Repr

/-- The configuration record `CFG` (R6). Every operation that depends on it takes it as its last argument, the
default configuration unless another is given (assumption log 14). -/
structure Cfg where
  /-- `BLOCK`: bytes per block -/
  block : Nat
  /-- `PACKLEN`: bytes per pack -/
  packLen : Nat
  /-- `SEG_BLOCKS`: blocks per segment -/
  segBlocks : Nat
  /-- `PROF`, with `NPROF` its length; each profile holds its `SHUF`, `SHUF_STRIDE` and `SHUF_STEP` -/
  prof : List Profile
  /-- `SUBK`, by segment and slot -/
  subk : List (List PackKind)
  /-- `AUXK`, by segment and slot -/
  auxk : List (List PackKind)
  /-- `AUDK`, by segment and slot -/
  audk : List (List PackKind)
  /-- `FILL` -/
  fill : Byte
  /-- `SECT_*`: first byte of a block id -/
  sect : Section → Byte
  /-- `IDLEN`: bytes of a block id -/
  idLen : Nat
  /-- `SUBIDLEN`: bytes of a sub-record id -/
  subIdLen : Nat
  /-- the pack type selectors `K_*` and `NOPACK`; for the header pack, the value with `dsf = 0` -/
  selector : PackKind → Byte
  /-- `MUTE16`: the silence code of 16-bit mode -/
  mute16 : BitVec 16
  /-- `MUTE12`: the muted code of 12-bit mode -/
  mute12 : BitVec 12
  /-- `SEQLEN`: length of a sample-count sequence -/
  seqLen : Nat
  /-- `FREQ`, by frequency code -/
  freq : List Nat
  /-- `PTS_SCALE` -/
  ptsScale : Nat
  /-- `PROFILE_BYTES`: bytes needed to identify a profile -/
  profileBytes : Nat
  /-- `FIFO_CAP`: capacity of each audio FIFO in bytes -/
  fifoCap : Nat
  /-- `CTR_BITS`: width of FRAMES and ABYTES -/
  ctrBits : Nat

/-- What the FIFO capacity holds above its least legal value: OPEN (R6, 92_eei_decisions D30), so it has
no body. Assumption log 10. -/
opaque Config.fifoSlack : Nat

/-- A configuration is well-formed (R7): (a) the frame sizes; (b) the sample-count deltas fit 6 bits;
(c) the shuffle map is injective and covers every word of a frame's PCM; (d) the distribution tables keep
the four fixed slots. The constraint on the FIFO capacity is R6's. R7 excludes no more than this; what the model does
in a configuration that is allowed and of which no rule speaks is assumption log 25. -/
def Cfg.WellFormed (c : Cfg) : Prop :=
  (∀ p ∈ c.prof, p.frameSize = p.C * p.S * c.segBlocks * c.block) ∧
  (∀ p ∈ c.prof, p.dist.length = c.seqLen ∧
    ∀ d ∈ p.dist, p.mins.getD 0 0 ≤ d ∧ d - p.mins.getD 0 0 ≤ 63) ∧
  (∀ p ∈ c.prof,
    (∀ s g k s' g' k', s < p.S → g < 9 → k < 36 → s' < p.S → g' < 9 → k' < 36 →
      (p.shuf.getD s []).getD g 0 * p.stride + k * p.slotStep
        = (p.shuf.getD s' []).getD g' 0 * p.stride + k' * p.slotStep →
      s = s' ∧ g = g' ∧ k = k') ∧
    (∀ w, (∃ d ∈ p.dist, w < 2 * d) →
      ∃ s g k, s < p.S ∧ g < 9 ∧ k < 36 ∧
        (p.shuf.getD s []).getD g 0 * p.stride + k * p.slotStep = w)) ∧
  ((c.audk.getD 0 []).getD 3 .nopack = .audioSource ∧
    (c.audk.getD 0 []).getD 4 .nopack = .audioControl ∧
    (c.auxk.getD 0 []).getD 9 .nopack = .videoSource ∧
    (c.auxk.getD 0 []).getD 10 .nopack = .videoControl) ∧
  (∀ p ∈ c.prof, ∀ d ∈ p.dist, 4 * d ≤ c.fifoCap)

/-! ### The test of R7 -/

/-- The word indices `Sidx` of every slot of a channel of a profile (R230). -/
def Profile.slotWords (p : Profile) : List Nat :=
  (List.range p.S).flatMap fun s => (List.range 9).flatMap fun g => (List.range 36).map fun k =>
    (p.shuf.getD s []).getD g 0 * p.stride + k * p.slotStep

/-- (a) of R7. -/
def Cfg.sizesOk (c : Cfg) : Bool := c.prof.all fun p => p.frameSize == p.C * p.S * c.segBlocks * c.block

/-- (b) of R7. -/
def Cfg.deltasOk (c : Cfg) : Bool :=
  c.prof.all fun p => p.dist.length == c.seqLen &&
    p.dist.all fun d => decide (p.mins.getD 0 0 ≤ d) && decide (d - p.mins.getD 0 0 ≤ 63)

/-- (c) of R7. -/
def Cfg.shuffleOk (c : Cfg) : Bool :=
  c.prof.all fun p => decide p.slotWords.Nodup &&
    p.dist.all fun d => (List.range (2 * d)).all fun w => p.slotWords.contains w

/-- (d) of R7. -/
def Cfg.fixedSlotsOk (c : Cfg) : Bool :=
  (c.audk.getD 0 []).getD 3 .nopack == .audioSource && (c.audk.getD 0 []).getD 4 .nopack == .audioControl &&
    (c.auxk.getD 0 []).getD 9 .nopack == .videoSource && (c.auxk.getD 0 []).getD 10 .nopack == .videoControl

/-- The least FIFO capacity of R6. -/
def Cfg.capacityOk (c : Cfg) : Bool := c.prof.all fun p => p.dist.all fun d => decide (4 * d ≤ c.fifoCap)

/-- The test a model makes once, at construction (R7, R354): `Cfg.WellFormed` as a computation. -/
def Cfg.check (c : Cfg) : Bool := c.sizesOk && c.deltasOk && c.fixedSlotsOk && c.capacityOk && c.shuffleOk

/-- Why no machine is built from a configuration. -/
inductive ConfigRefusal
  /-- The configuration is not well-formed (R7: "A model must refuse a configuration that is not";
  93_implementation_defined U13). Raised by building the machine, before any state exists. Safe. -/
  | illFormed
deriving DecidableEq, Repr

end Sys2Proof
end

