-- ==== Sys2Proof/Syntax.lean ====
section
/-! DEFINITION. The instructions of DVMX: one constructor for each row of spec/opcode_table.json, in the
table's order (24 commands, 11 pack kinds, 5 block ids, the sub-record id, 5 response classes, 13 codes),
and the operand records they carry. -/

namespace Sys2Proof

/-- The formats of the opcode table: what a transfer holds. -/
inductive Format
  | cmd | pack | blkid | subid | resp | code
deriving DecidableEq, Repr

/-- The operands of a command packet (R31, R100): `A`, `B` and the payload, whose length is `LEN`. -/
structure Operands where
  a : Byte
  b : Half
  pay : List Byte
deriving DecidableEq, Repr

/-- The conditions a command can end with besides success: the error and refusal kinds of R320. -/
inductive Kind
  | profileUnrecognized | unsupportedQuantization | incompleteInput | streamTopologyInvalid
  | badOpcode | badMode | badOperand | fieldRange | lengthMismatch | packMismatch | fifoFull | sessionFailed
deriving DecidableEq, Repr

/-- The response classes of R102. -/
inductive RespClass
  | ok | notReady | incomplete | refused | error
deriving DecidableEq, Repr

/-- Fields of the frame header pack (R165). -/
structure HdrFields where
  dsf : Bool
  apt : Nat
  tf1 : Nat
  ap1 : Nat
  tf2 : Nat
  ap2 : Nat
  tf3 : Nat
  ap3 : Nat
deriving DecidableEq, Repr

/-- Fields of the timecode pack (R166). -/
structure TcFields where
  cf : Nat
  df : Nat
  ft : Nat
  fu : Nat
  pc : Nat
  st : Nat
  su : Nat
  bgf0 : Nat
  mt : Nat
  mu : Nat
  bgf2 : Nat
  bgf1 : Nat
  ht : Nat
  hu : Nat
deriving DecidableEq, Repr

/-- Fields of the audio source pack (R170). -/
structure AudioSourceFields where
  lf : Nat
  afsize : Nat
  sm : Nat
  chn : Nat
  pa : Nat
  amode : Nat
  ml : Nat
  f5060 : Nat
  stype : Nat
  ef : Nat
  tc : Nat
  smp : Nat
  qu : Nat
deriving DecidableEq, Repr

/-- Fields of the audio control pack (R171). -/
structure AudioControlFields where
  cgms : Nat
  isr : Nat
  cmp : Nat
  ss : Nat
  recst : Nat
  recend : Nat
  recmode : Nat
  insch : Nat
  drf : Nat
  speed : Nat
  genre : Nat
deriving DecidableEq, Repr

/-- Fields of the record date packs (R172). -/
structure RecDateFields where
  tz : Nat
  dt : Nat
  du : Nat
  week : Nat
  mt : Nat
  mu : Nat
  yt : Nat
  yu : Nat
deriving DecidableEq, Repr

/-- Fields of the record time packs (R173). -/
structure RecTimeFields where
  ft : Nat
  fu : Nat
  st : Nat
  su : Nat
  mt : Nat
  mu : Nat
  ht : Nat
  hu : Nat
deriving DecidableEq, Repr

/-- Fields of the video source pack (R175). -/
structure VideoSourceFields where
  tvch : Nat
  bw : Nat
  en : Nat
  clf : Nat
  f5060 : Nat
  stype : Nat
  visc : Nat
deriving DecidableEq, Repr

/-- Fields of the video control pack (R176). -/
structure VideoControlFields where
  cgms : Nat
  aspect : Nat
  ff : Nat
  fs : Nat
  fc : Nat
  il : Nat
deriving DecidableEq, Repr

/-- Fields of a block id (R106), the section type apart: segment, channel, block number. -/
structure BlkIdFields where
  seg : BitVec 4
  chan : BitVec 1
  num : Byte
deriving DecidableEq, Repr

/-- Fields of a sub-record id (R108): the first-half flag and the sub-record number. -/
structure SubIdFields where
  fr : Bool
  syb : BitVec 4
deriving DecidableEq, Repr

/-- The instructions: one constructor per row of the opcode table. -/
inductive Instr
  -- commands (R101)
  | openMux (o : Operands)
  | pushVideo (o : Operands)
  | pushAudio (o : Operands)
  | tryEmitFrame (o : Operands)
  | openDemux (o : Operands)
  | feedFrame (o : Operands)
  | close (o : Operands)
  | setRecdt (o : Operands)
  | readStatus (o : Operands)
  | profileSelect (o : Operands)
  | profileDetect (o : Operands)
  | kindLookup (o : Operands)
  | packEnc (o : Operands)
  | packDec (o : Operands)
  | tcDerive (o : Operands)
  | formatFrame (o : Operands)
  | injectVideo (o : Operands)
  | injectAudio (o : Operands)
  | extractVideo (o : Operands)
  | extractAudio (o : Operands)
  | extractPack (o : Operands)
  | expand12 (o : Operands)
  | unpack12 (o : Operands)
  | shufAddr (o : Operands)
  -- packs (R112, R165 to R177)
  | kHdr (f : HdrFields)
  | kTc (f : TcFields)
  | kAs (f : AudioSourceFields)
  | kAc (f : AudioControlFields)
  | kArd (f : RecDateFields)
  | kArt (f : RecTimeFields)
  | kVs (f : VideoSourceFields)
  | kVc (f : VideoControlFields)
  | kVrd (f : RecDateFields)
  | kVrt (f : RecTimeFields)
  | nopack
  -- block ids (R106) and the sub-record id (R108)
  | sectHeader (f : BlkIdFields)
  | sectSubcode (f : BlkIdFields)
  | sectAux (f : BlkIdFields)
  | sectAudio (f : BlkIdFields)
  | sectVideo (f : BlkIdFields)
  | subId (f : SubIdFields)
  -- response classes (R102)
  | classOk (ra : Byte) (rpay : List Byte)
  | classNotReady
  | classIncomplete
  | classRefused (k : Kind)
  | classError (k : Kind)
  -- codes (R320)
  | codeNone
  | codeProfileUnrecognized
  | codeUnsupportedQuantization
  | codeIncompleteInput
  | codeStreamTopologyInvalid
  | codeBadOpcode
  | codeBadMode
  | codeBadOperand
  | codeFieldRange
  | codeLengthMismatch
  | codePackMismatch
  | codeFifoFull
  | codeSessionFailed
deriving DecidableEq, Repr

/-- Why a transfer holds no instruction. -/
inductive DecodeError
  /-- a command transfer shorter than its 8 header bytes (R100) -/
  | shortHeader
  /-- the payload that follows the header is not `LEN` bytes long (R100) -/
  | lengthField
  /-- the opcode is not in the map of R101 -/
  | badOpcode
  /-- a pack transfer that is not 5 bytes (R118) -/
  | packLength
  /-- a pack selector that is not in the map of R112 -/
  | badSelector
  /-- not a block id of R106 -/
  | badBlockId
  /-- not a sub-record id of R108 -/
  | badSubId
  /-- not a response packet of R100 and R102 -/
  | badResponse
  /-- not a code of R320 -/
  | badCode
deriving DecidableEq, Repr

/-- What a host can do to the machine (R100, R350, R351). The format names the opcode-table format of the bytes; a
host of the spec sends commands only (assumption logs 1 and 3). -/
inductive HostEvent
  /-- send a transfer and wait for its response -/
  | transfer (fmt : Format) (bytes : List Byte)
  /-- pull the hardware reset between two commands -/
  | hardReset
  /-- send a transfer and pull the hardware reset while it executes (assumption log 13) -/
  | resetDuring (fmt : Format) (bytes : List Byte)
deriving DecidableEq, Repr

end Sys2Proof
end

