-- ==== Sys2Proof/Machine/Bytes.lean ====
section
/-! DEFINITION. Byte order and slices: little-endian and big-endian numbers as byte lists (R77, R104), and
the slice and write primitives of a byte buffer (R9, R80). -/

namespace Sys2Proof.Machine

/-- The low 8 bits of a number, as a byte. -/
def byte (n : Nat) : Byte := BitVec.ofNat 8 n

/-- `n` as `k` bytes, lowest byte first (R77 (b)). -/
def leBytes : Nat → Nat → List Byte
  | 0, _ => []
  | k + 1, n => byte n :: leBytes k (n / 256)

/-- The number a little-endian byte list spells (R104: `LEN = sum of byte[4+i] * 256^i`). -/
def leNat : List Byte → Nat
  | [] => 0
  | b :: bs => b.toNat + 256 * leNat bs

/-- `n` as `k` bytes, highest byte first: how the opcode table writes a pack or an id as one number. -/
def beBytes (k n : Nat) : List Byte := (leBytes k n).reverse

/-- The number a byte list spells, highest byte first. -/
def beNat (bs : List Byte) : Nat := leNat bs.reverse

/-- `bs[a .. a+n-1]` (R9). -/
def slice (bs : List Byte) (a n : Nat) : List Byte := (bs.drop a).take n

/-- Byte `i` of a payload whose length the caller has tested (assumption log 21). -/
def payAt (bs : List Byte) (i : Nat) : Byte := bs.getD i 0

/-- Byte `a` of a buffer whose length the caller has tested (assumption log 21). -/
def bufAt (F : Buffer) (a : Nat) : Byte := F.getD a 0

/-- Bit slice `v[hi:lo]` of a byte, as a number (R8). -/
def bits (v : Byte) (hi lo : Nat) : Nat := v.toNat / 2 ^ lo % 2 ^ (hi + 1 - lo)

/-- A sequence of single-byte writes, in order (R80: every access is the sequence of its single-byte
accesses; R9: `MemWrite`). A write beyond the end of the buffer has no effect: no rule makes one in the default
configuration; in another that R7 allows (`SEG_BLOCKS` below 150, say) R64 gives addresses beyond the frame.
DESIGN CHOICE, unsafe (assumption log 25). -/
def applyWrites (F : Buffer) (ws : List (Nat × Byte)) : Buffer :=
  ws.foldl (fun F w => F.setIfInBounds w.1 w.2) F

/-- The single-byte writes of `F[a ..] <- bytes` (R9). -/
def writesAt (a : Nat) (bytes : List Byte) : List (Nat × Byte) :=
  bytes.mapIdx fun i b => (a + i, b)

end Sys2Proof.Machine
end

