-- ==== Sys2Proof/Machine/Codes.lean ====
section
/-! DEFINITION. The code table (R320), the response classes (R102) and the response packet (R100). -/

namespace Sys2Proof.Machine

/-- The code of a condition (R320). -/
def kindCode : Kind → Byte
  | .profileUnrecognized => 0x01
  | .unsupportedQuantization => 0x02
  | .incompleteInput => 0x03
  | .streamTopologyInvalid => 0x04
  | .badOpcode => 0x10
  | .badMode => 0x11
  | .badOperand => 0x12
  | .fieldRange => 0x13
  | .lengthMismatch => 0x14
  | .packMismatch => 0x15
  | .fifoFull => 0x16
  | .sessionFailed => 0x17

/-- The class of a condition (R320). -/
def kindClass : Kind → RespClass
  | .profileUnrecognized | .unsupportedQuantization | .streamTopologyInvalid => .error
  | .incompleteInput => .incomplete
  | .badOpcode | .badMode | .badOperand | .fieldRange | .lengthMismatch | .packMismatch
  | .fifoFull | .sessionFailed => .refused

/-- Byte 0 of a response (R100). -/
def classByte : RespClass → Byte
  | .ok => 0
  | .notReady => 1
  | .incomplete => 2
  | .refused => 3
  | .error => 4

/-- Every condition of R320. -/
def allConditions : List Kind :=
  [.profileUnrecognized, .unsupportedQuantization, .incompleteInput, .streamTopologyInvalid,
   .badOpcode, .badMode, .badOperand, .fieldRange, .lengthMismatch, .packMismatch, .fifoFull, .sessionFailed]

/-- The condition a code names, none for a byte that is no code of R320 (0x00 is no condition). -/
def kindOfCode (b : Byte) : Option Kind := allConditions.find? fun k => kindCode k == b

/-- A response packet (R100): class, code, the 8-bit result and the result payload, whose length is
`RLEN`. -/
structure Response where
  cls : RespClass
  code : Byte
  ra : Byte
  rpay : List Byte
deriving DecidableEq, Repr

/-- The bytes of a response packet (R100). -/
def responseBytes (r : Response) : List Byte :=
  [classByte r.cls, r.code, r.ra, 0] ++ leBytes 4 r.rpay.length ++ r.rpay

/-- The response a condition makes: its class and code, `RA = 0`, `RLEN = 0` (R100, R320). -/
def kindResponse (k : Kind) : Response := ⟨kindClass k, kindCode k, 0, []⟩

end Sys2Proof.Machine
end

