-- ==== Sys2Proof/Machine/Tables.lean ====
section
/-! DEFINITION. The default configuration: the numbers of R6, R41, R43 to R47, R106 and R112. Assumption
log 14. -/

namespace Sys2Proof.Machine

/-- `SHUF10` (R46). -/
def shuf10 : List (List Nat) :=
  [[0, 30, 60, 20, 50, 80, 10, 40, 70],
   [6, 36, 66, 26, 56, 86, 16, 46, 76],
   [12, 42, 72, 2, 32, 62, 22, 52, 82],
   [18, 48, 78, 8, 38, 68, 28, 58, 88],
   [24, 54, 84, 14, 44, 74, 4, 34, 64],
   [1, 31, 61, 21, 51, 81, 11, 41, 71],
   [7, 37, 67, 27, 57, 87, 17, 47, 77],
   [13, 43, 73, 3, 33, 63, 23, 53, 83],
   [19, 49, 79, 9, 39, 69, 29, 59, 89],
   [25, 55, 85, 15, 45, 75, 5, 35, 65]]

/-- `SHUF12` (R46). -/
def shuf12 : List (List Nat) :=
  [[0, 36, 72, 26, 62, 98, 16, 52, 88],
   [6, 42, 78, 32, 68, 104, 22, 58, 94],
   [12, 48, 84, 2, 38, 74, 28, 64, 100],
   [18, 54, 90, 8, 44, 80, 34, 70, 106],
   [24, 60, 96, 14, 50, 86, 4, 40, 76],
   [30, 66, 102, 20, 56, 92, 10, 46, 82],
   [1, 37, 73, 27, 63, 99, 17, 53, 89],
   [7, 43, 79, 33, 69, 105, 23, 59, 95],
   [13, 49, 85, 3, 39, 75, 29, 65, 101],
   [19, 55, 91, 9, 45, 81, 35, 71, 107],
   [25, 61, 97, 15, 51, 87, 5, 41, 77],
   [31, 67, 103, 21, 57, 93, 11, 47, 83]]

/-- A 10-segment profile with `C` channels (R41, profiles 0 and 2). -/
def profile10 (C vstype : Nat) : Profile where
  C := C
  S := 10
  frameSize := C * 120000
  rateNum := 30000
  rateDen := 1001
  ltc := 30
  drop := true
  dsf := false
  vstype := vstype
  mins := [1580, 1452, 1053]
  dist := [1602, 1601, 1602, 1601, 1602]
  slotStep := 90
  stride := 1
  shuf := shuf10

/-- A 12-segment profile with `C` channels (R41, profiles 1 and 3). -/
def profile12 (C vstype : Nat) : Profile where
  C := C
  S := 12
  frameSize := C * 144000
  rateNum := 25
  rateDen := 1
  ltc := 25
  drop := false
  dsf := true
  vstype := vstype
  mins := [1896, 1742, 1264]
  dist := [1920, 1920, 1920, 1920, 1920]
  slotStep := 108
  stride := 1
  shuf := shuf12

/-- The profile table (R41), ids 0 to 3. -/
def profiles : List Profile := [profile10 1 0, profile12 1 0, profile10 2 4, profile12 2 4]

/-- `SUBK` (R43). -/
def subKinds : List (List PackKind) :=
  List.replicate 6 (List.replicate 6 .tc)
    ++ List.replicate 6 [.tc, .videoRecDate, .videoRecTime, .tc, .videoRecDate, .videoRecTime]

/-- `AUXK` (R44). -/
def auxKinds : List (List PackKind) :=
  List.replicate 12
    [.videoSource, .videoControl, .videoRecDate, .videoRecTime,
     .nopack, .nopack, .nopack, .nopack, .nopack,
     .videoSource, .videoControl, .videoRecDate, .videoRecTime, .nopack, .nopack]

/-- The even row of `AUDK` (R45). -/
def audEven : List PackKind :=
  [.nopack, .nopack, .nopack, .audioSource, .audioControl, .audioRecDate, .audioRecTime, .nopack, .nopack]

/-- The odd row of `AUDK` (R45). -/
def audOdd : List PackKind :=
  [.audioSource, .audioControl, .audioRecDate, .audioRecTime, .nopack, .nopack, .nopack, .nopack, .nopack]

/-- `AUDK` (R45). -/
def audKinds : List (List PackKind) :=
  [audEven, audOdd, audEven, audOdd, audEven, audOdd, audEven, audOdd, audEven, audOdd, audEven, audOdd]

/-- First byte of a block id (R6, R106). -/
def sectByte : Section → Byte
  | .header => 0x1F
  | .subcode => 0x3F
  | .aux => 0x56
  | .audio => 0x76
  | .video => 0x96

/-- Pack type selectors (R112); the header pack's with `dsf = 0`. -/
def selectorByte : PackKind → Byte
  | .hdr => 0x3F
  | .tc => 0x13
  | .audioSource => 0x50
  | .audioControl => 0x51
  | .audioRecDate => 0x52
  | .audioRecTime => 0x53
  | .videoSource => 0x60
  | .videoControl => 0x61
  | .videoRecDate => 0x62
  | .videoRecTime => 0x63
  | .nopack => 0xFF

/-- The default configuration (R6). `FIFO_CAP` is 7680, the least legal capacity, plus the open constant. -/
def cfg : Cfg where
  block := 80
  packLen := 5
  segBlocks := 150
  prof := profiles
  subk := subKinds
  auxk := auxKinds
  audk := audKinds
  fill := 0xFF
  sect := sectByte
  idLen := 3
  subIdLen := 3
  selector := selectorByte
  mute16 := 0x8000
  mute12 := 0x800
  seqLen := 5
  freq := [48000, 44100, 32000]
  ptsScale := 240000
  profileBytes := 480
  fifoCap := 7680 + Config.fifoSlack
  ctrBits := 64

end Sys2Proof.Machine
end

