-- ==== Sys2Proof/Machine/PackCodec.lean ====
section
/-! DEFINITION. The pack codec (R109 to R114, R160 to R177): one layout per kind, one encoder and one decoder
over layouts, of the default configuration unless another is given. A layout lists, from bit 7 of PC1 down to
bit 0 of PC4, what the kind's table gives: a named field of a width, or constant bits. The payload order of every kind is the order of its layout. -/

namespace Sys2Proof.Machine

/-- A piece of a layout: `field w` holds a field of `w` bits, `const w v` the constant bits `v`. -/
inductive Piece
  | field (w : Nat)
  | const (w v : Nat)
deriving DecidableEq, Repr

/-- Width of a piece in bits. -/
def Piece.width : Piece → Nat
  | .field w => w
  | .const w _ => w

/-- The layout of each kind, one line per byte PC1 to PC4 (R165, R166, R170 to R173, R175 to R177). -/
def layout : PackKind → List Piece
  | .hdr =>
    [.const 5 0x1F, .field 3,
     .field 1, .const 4 0xF, .field 3,
     .field 1, .const 4 0xF, .field 3,
     .field 1, .const 4 0xF, .field 3]
  | .tc =>
    [.field 1, .field 1, .field 2, .field 4,
     .field 1, .field 3, .field 4,
     .field 1, .field 3, .field 4,
     .field 1, .field 1, .field 2, .field 4]
  | .audioSource =>
    [.field 1, .const 1 1, .field 6,
     .field 1, .field 2, .field 1, .field 4,
     .const 1 1, .field 1, .field 1, .field 5,
     .field 1, .field 1, .field 3, .field 3]
  | .audioControl =>
    [.field 2, .field 2, .field 2, .field 2,
     .field 1, .field 1, .field 3, .field 3,
     .field 1, .field 7,
     .const 1 1, .field 7]
  | .audioRecDate =>
    [.field 8,
     .const 2 3, .field 2, .field 4,
     .field 3, .field 1, .field 4,
     .field 4, .field 4]
  | .videoRecDate =>
    [.field 8,
     .const 2 3, .field 2, .field 4,
     .field 3, .field 1, .field 4,
     .field 4, .field 4]
  | .audioRecTime =>
    [.const 2 3, .field 2, .field 4,
     .const 1 1, .field 3, .field 4,
     .const 1 1, .field 3, .field 4,
     .const 2 3, .field 2, .field 4]
  | .videoRecTime =>
    [.const 2 3, .field 2, .field 4,
     .const 1 1, .field 3, .field 4,
     .const 1 1, .field 3, .field 4,
     .const 2 3, .field 2, .field 4]
  | .videoSource =>
    [.field 8,
     .field 1, .field 1, .field 2, .const 4 0xF,
     .const 2 3, .field 1, .field 5,
     .field 8]
  | .videoControl =>
    [.field 2, .const 6 0x3F,
     .const 5 0x19, .field 3,
     .field 1, .field 1, .field 1, .field 1, .const 4 0xC,
     .const 8 0xFF]
  | .nopack =>
    [.const 8 0xFF, .const 8 0xFF, .const 8 0xFF, .const 8 0xFF]

/-- Widths of the fields of a layout, in payload order. -/
def fieldWidths : List Piece → List Nat
  | [] => []
  | .field w :: l => w :: fieldWidths l
  | .const _ _ :: l => fieldWidths l

/-- The widths of a kind's fields (R161: `LEN` is the number of fields of the kind). -/
def widthsOf (k : PackKind) : List Nat := fieldWidths (layout k)

/-- Total width of a layout. -/
def layoutWidth : List Piece → Nat
  | [] => 0
  | q :: l => q.width + layoutWidth l

/-- Whether every field value fits its width (R111). -/
def fieldsFit : List Nat → List Nat → Bool
  | [], [] => true
  | w :: ws, v :: vs => decide (v < 2 ^ w) && fieldsFit ws vs
  | _, _ => false

/-- The bits of a layout filled with field values, highest bit first, after the bits `acc`. -/
def encodeBits : List Piece → List Nat → Nat → Nat
  | [], _, acc => acc
  | .const w v :: l, vs, acc => encodeBits l vs (acc * 2 ^ w + v)
  | .field w :: l, v :: vs, acc => encodeBits l vs (acc * 2 ^ w + v)
  | .field w :: l, [], acc => encodeBits l [] (acc * 2 ^ w)

/-- The field values a 32-bit content holds under a layout; constant bits are not looked at (R110). -/
def decodeBits : List Piece → Nat → List Nat
  | [], _ => []
  | .const _ _ :: l, x => decodeBits l x
  | .field w :: l, x => x / 2 ^ layoutWidth l % 2 ^ w :: decodeBits l x

/-- The selector byte of a kind (R112); bit 7 of the header pack's is the field `dsf`. -/
def selectorOf (k : PackKind) (dsf : Bool) (K : Cfg := cfg) : Byte :=
  if k = .hdr ∧ dsf = true then K.selector .hdr ||| 0x80 else K.selector k

/-- The kinds in the order of the selector map (R112). -/
def allKinds : List PackKind :=
  [.hdr, .tc, .audioSource, .audioControl, .audioRecDate, .audioRecTime,
   .videoSource, .videoControl, .videoRecDate, .videoRecTime, .nopack]

/-- The kind a selector byte names and its `dsf` bit, none for a byte outside the map (R112, R114). Only
the header pack's selector has a free bit. The selectors of R112 differ, but `K_*` are fields of `CFG` (R6) and R7
lets two kinds of another configuration share one: there the header pack comes first, then the order of R112.
DESIGN CHOICE, unsafe (assumption log 25). -/
def kindOfSelector (b : Byte) (K : Cfg := cfg) : Option (PackKind × Bool) :=
  if b &&& 0x7F = K.selector .hdr then some (.hdr, b.getLsbD 7)
  else match allKinds.find? (fun k => K.selector k == b) with
    | some k => some (k, false)
    | none => none

/-- `Enc_kind(fields)` (R161): a wrong number of fields is LengthMismatch, a field that exceeds its width
FieldRange. The content has 32 bits (R109); under another `PACKLEN` its low bytes are written, or zero bytes before
it. DESIGN CHOICE, unsafe (assumption log 25). -/
def encodePack (k : PackKind) (dsf : Bool) (vs : List Nat) (K : Cfg := cfg) : Except Kind (List Byte) :=
  if vs.length ≠ (widthsOf k).length then .error .lengthMismatch
  else if fieldsFit (widthsOf k) vs then
    .ok (selectorOf k dsf K :: beBytes (K.packLen - 1) (encodeBits (layout k) vs 0))
  else .error .fieldRange

/-- `decode(5 bytes)` (R160, R162): the kind, its `dsf` bit and the field values; none for a selector
outside the map. -/
def decodePack (bs : List Byte) (K : Cfg := cfg) : Option (PackKind × Bool × List Nat) :=
  match kindOfSelector (payAt bs 0) K with
  | some (k, dsf) => some (k, dsf, decodeBits (layout k) (beNat (slice bs 1 (K.packLen - 1))))
  | none => none

/-- A list of field values as the bytes of a PACK_DEC result (R111: one byte each). -/
def fieldBytes (vs : List Nat) : List Byte := vs.map byte

/-- Payload order of R165. -/
def hdrList (f : HdrFields) : List Nat := [f.apt, f.tf1, f.ap1, f.tf2, f.ap2, f.tf3, f.ap3]

/-- Payload order of R166. -/
def tcList (f : TcFields) : List Nat :=
  [f.cf, f.df, f.ft, f.fu, f.pc, f.st, f.su, f.bgf0, f.mt, f.mu, f.bgf2, f.bgf1, f.ht, f.hu]

/-- Payload order of R170. -/
def audioSourceList (f : AudioSourceFields) : List Nat :=
  [f.lf, f.afsize, f.sm, f.chn, f.pa, f.amode, f.ml, f.f5060, f.stype, f.ef, f.tc, f.smp, f.qu]

/-- Payload order of R171. -/
def audioControlList (f : AudioControlFields) : List Nat :=
  [f.cgms, f.isr, f.cmp, f.ss, f.recst, f.recend, f.recmode, f.insch, f.drf, f.speed, f.genre]

/-- Payload order of R172. -/
def recDateList (f : RecDateFields) : List Nat := [f.tz, f.dt, f.du, f.week, f.mt, f.mu, f.yt, f.yu]

/-- Payload order of R173. -/
def recTimeList (f : RecTimeFields) : List Nat := [f.ft, f.fu, f.st, f.su, f.mt, f.mu, f.ht, f.hu]

/-- Payload order of R175. -/
def videoSourceList (f : VideoSourceFields) : List Nat :=
  [f.tvch, f.bw, f.en, f.clf, f.f5060, f.stype, f.visc]

/-- Payload order of R176. -/
def videoControlList (f : VideoControlFields) : List Nat := [f.cgms, f.aspect, f.ff, f.fs, f.fc, f.il]

/-- The instruction a decoded pack is: its kind's constructor with the fields in payload order. -/
def packInstr (k : PackKind) (dsf : Bool) (vs : List Nat) : Instr :=
  let v := fun i => vs.getD i 0
  match k with
  | .hdr => .kHdr ⟨dsf, v 0, v 1, v 2, v 3, v 4, v 5, v 6⟩
  | .tc => .kTc ⟨v 0, v 1, v 2, v 3, v 4, v 5, v 6, v 7, v 8, v 9, v 10, v 11, v 12, v 13⟩
  | .audioSource => .kAs ⟨v 0, v 1, v 2, v 3, v 4, v 5, v 6, v 7, v 8, v 9, v 10, v 11, v 12⟩
  | .audioControl => .kAc ⟨v 0, v 1, v 2, v 3, v 4, v 5, v 6, v 7, v 8, v 9, v 10⟩
  | .audioRecDate => .kArd ⟨v 0, v 1, v 2, v 3, v 4, v 5, v 6, v 7⟩
  | .audioRecTime => .kArt ⟨v 0, v 1, v 2, v 3, v 4, v 5, v 6, v 7⟩
  | .videoSource => .kVs ⟨v 0, v 1, v 2, v 3, v 4, v 5, v 6⟩
  | .videoControl => .kVc ⟨v 0, v 1, v 2, v 3, v 4, v 5⟩
  | .videoRecDate => .kVrd ⟨v 0, v 1, v 2, v 3, v 4, v 5, v 6, v 7⟩
  | .videoRecTime => .kVrt ⟨v 0, v 1, v 2, v 3, v 4, v 5, v 6, v 7⟩
  | .nopack => .nopack

/-- The kind, `dsf` bit and field values of a pack instruction; none for any other instruction. -/
def packOf : Instr → Option (PackKind × Bool × List Nat)
  | .kHdr f => some (.hdr, f.dsf, hdrList f)
  | .kTc f => some (.tc, false, tcList f)
  | .kAs f => some (.audioSource, false, audioSourceList f)
  | .kAc f => some (.audioControl, false, audioControlList f)
  | .kArd f => some (.audioRecDate, false, recDateList f)
  | .kArt f => some (.audioRecTime, false, recTimeList f)
  | .kVs f => some (.videoSource, false, videoSourceList f)
  | .kVc f => some (.videoControl, false, videoControlList f)
  | .kVrd f => some (.videoRecDate, false, recDateList f)
  | .kVrt f => some (.videoRecTime, false, recTimeList f)
  | .nopack => some (.nopack, false, [])
  | _ => none

end Sys2Proof.Machine
end

