-- ==== Sys2Proof/Machine/State.lean ====
section
/-! DEFINITION. The state of DVMX (R20 to R36), its value after reset (R38, R350), and the reasons a step
can stop. -/

namespace Sys2Proof.Machine

/-- `MODE` (R21). -/
inductive Mode
  | closed | mux | demux | failed
deriving DecidableEq, Repr

/-- `MSTATE` (R24); the encoding 3 is never written. -/
inductive MuxState
  | accumulating | ready | emitted
deriving DecidableEq, Repr

/-- `RECDT` (R28): six byte-wide fields. -/
structure RecordDate where
  yy : Byte
  mo : Byte
  dd : Byte
  hh : Byte
  mi : Byte
  ss : Byte
deriving DecidableEq, Repr

/-- A byte store: (address, byte) pairs, addresses strictly rising. An address that is not listed has NO
VALUE: R38 calls the contents "unspecified" until written, "a model must treat a read as a fault or draw,
never as a value". Assumption log 9. -/
abbrev Memory := List Host.Cell

/-- The buffers that persist between commands (R33, R34). -/
inductive StagingBuffer
  | vbuf | framebuf
deriving DecidableEq, Repr

/-- Why the machine stops. -/
inductive Fault
  /-- Frame assembly or TRY_EMIT_FRAME read a byte of VBUF or FRAMEBUF that nothing has written (R38).
  Safe: no state that a run from reset reaches does it. -/
  | readUnspecified (b : StagingBuffer)
deriving DecidableEq, Repr

/-- Why a step gives an input no meaning. -/
inductive Refusal
  /-- An instruction without a meaning yet, by its mnemonic; no arm answers it. Safe. -/
  | notModelled (mnemonic : String)
  /-- The host's transfer is no whole packet or record, for the given reason; raised by a step, never by
  an instruction's meaning. Safe: the spec defines nothing there. Assumption log 6. -/
  | malformedTransfer (e : DecodeError)
deriving DecidableEq, Repr

/-- The state of DVMX. Every field but `response` and `inbox` is the spec's (R20: five classes, the
read-only tables apart); those two are the packet interface of R100 as the model holds it. -/
structure State where
  /-- `MODE` (R21) -/
  mode : Mode
  /-- `PROFILE` (R22) -/
  profile : BitVec 2
  /-- `PVALID` (R22, R30) -/
  pvalid : Bool
  /-- `FRAMES` (R23) -/
  frames : Counter
  /-- `MSTATE` (R24) -/
  mstate : MuxState
  /-- `ABYTES` (R25) -/
  abytes : Counter
  /-- `NAUDIO` (R26) -/
  naudio : BitVec 2
  /-- `AFREQ` (R26) -/
  afreq : BitVec 3
  /-- `AQUANT` (R26) -/
  aquant : BitVec 3
  /-- `ASPECT` (R27) -/
  aspect : BitVec 3
  /-- `RECDT` (R28) -/
  recdt : RecordDate
  /-- `ERR` (R29) -/
  err : Byte
  /-- `VPEND` (R30) -/
  vpend : Bool
  /-- `VOVR` (R30) -/
  vovr : Bool
  /-- `AOVF` (R30) -/
  aovf : Bool
  /-- `VBUF` (R33) -/
  vbuf : Memory
  /-- `FRAMEBUF` (R34) -/
  framebuf : Memory
  /-- `FIFO[0]` (R35), head first -/
  fifo0 : List Byte
  /-- `FIFO[1]` (R35), head first -/
  fifo1 : List Byte
  /-- operand register `OPC` (R31) -/
  opc : Byte
  /-- operand register `A` (R31) -/
  opA : Byte
  /-- operand register `B` (R31) -/
  opB : Half
  /-- operand register `LEN` (R31) -/
  len : BitVec 32
  /-- payload array `PAY` (R31) -/
  pay : List Byte
  /-- the last response packet, none before the first command ends; assumption log 8 -/
  response : Option Response
  /-- what the host has sent and DVMX has not taken yet, first first; assumption log 1 -/
  inbox : List HostEvent
deriving DecidableEq, Repr

/-- The record date after reset and after every open (R38): 70-01-01 00:00:00. -/
def defaultDate : RecordDate := ⟨70, 1, 1, 0, 0, 0⟩

/-- The state after hardware reset (R38, R350). The operand registers, "unspecified between commands", are
zero (assumption log 7); VBUF and FRAMEBUF hold no byte (assumption log 9); nothing has been sent and
nothing answered (assumption logs 1 and 8). -/
def State.reset : State where
  mode := .closed
  profile := 0
  pvalid := false
  frames := 0
  mstate := .accumulating
  abytes := 0
  naudio := 0
  afreq := 0
  aquant := 0
  aspect := 0
  recdt := defaultDate
  err := 0
  vpend := false
  vovr := false
  aovf := false
  vbuf := []
  framebuf := []
  fifo0 := []
  fifo1 := []
  opc := 0
  opA := 0
  opB := 0
  len := 0
  pay := []
  response := none
  inbox := []

end Sys2Proof.Machine
end

