-- ==== Sys2Proof/Machine/Flags.lean ====
section
/-! DEFINITION. The flag byte (R30) and the register encodings READ_STATUS shows (R21, R24, R274). DVMX has
no arithmetic condition codes (R30). -/

namespace Sys2Proof.Machine

/-- `MODE` as its number (R21). -/
def modeNumber : Mode → Nat
  | .closed => 0
  | .mux => 1
  | .demux => 2
  | .failed => 3

/-- `MSTATE` as its number (R24). -/
def muxStateNumber : MuxState → Nat
  | .accumulating => 0
  | .ready => 1
  | .emitted => 2

/-- `MSTATE` as it is read (R24): "It has a meaning only in MUX mode and reads 0 otherwise". -/
def State.readMstate (s : State) : MuxState := if s.mode = .mux then s.mstate else .accumulating

/-- `ABYTES` as it is read (R25): 0 outside a demux session. FAILED, which only a demux session enters, is such a
session, terminated: "the registers keep their values and remain readable" (R330), and 95_test_vectors V61 reads
`ABYTES 6408` there. Assumption log 12. -/
def State.readAbytes (s : State) : Counter := if s.mode = .demux ∨ s.mode = .failed then s.abytes else 0

/-- The flag byte (R30): bit 0 `VPEND`, bit 1 `PVALID`, bit 2 `VOVR`, bit 3 `AOVF`, bits 7:4 zero. -/
def flagByte (s : State) : Byte :=
  byte (s.vpend.toNat + 2 * s.pvalid.toNat + 4 * s.vovr.toNat + 8 * s.aovf.toNat)

/-- The flag updates of PUSH_VIDEO (R263): a unit still pending is lost, which `VOVR` records. -/
def flagsOnPushVideo (s : State) : State := { s with vovr := s.vovr || s.vpend, vpend := true }

/-- The flag update of a PUSH_AUDIO refused for lack of room (R264). -/
def flagsOnFifoFull (s : State) : State := { s with aovf := true }

end Sys2Proof.Machine
end

