-- ==== Sys2Proof/Machine/Ops.lean ====
section
/-! DEFINITION. The named operations over the state: byte stores, FIFOs, the profile of the session, how a
command ends (a result, or raising a condition: what DVMX has in the place of taking an exception, R320,
R328, R330, R334), and how it goes on afterwards (CLOSE and reset, R331, R351). -/

namespace Sys2Proof.Machine

/-- What an instruction answers. -/
abbrev Out := Host.Outcome State Fault Refusal

/-- What a pure command returns (R9: `return v`): `RA` and `RPAY`. -/
structure Reply where
  ra : Byte
  rpay : List Byte
deriving DecidableEq, Repr

/-- How a session operation can end before its end: a condition raised, or a fault of the model. -/
inductive Stop
  | raised (k : Kind)
  | faulted (f : Fault)
deriving DecidableEq, Repr

/-! ### Byte stores -/

/-- The canonical form of a byte store: addresses strictly rising. -/
abbrev Memory.wf (m : Memory) : Prop := (m.map Prod.fst).Pairwise (· < ·)

/-- Byte `a` of a store, none when nothing has written it (R38). -/
def Memory.read : Memory → Nat → Option Byte
  | [], _ => none
  | (k, b) :: m, a => if k = a then some b else Memory.read m a

/-- A store that holds `bytes` from address `a` on. -/
def Memory.ofBytesFrom (a : Nat) : List Byte → Memory
  | [] => []
  | b :: bs => (a, b) :: Memory.ofBytesFrom (a + 1) bs

/-- A store that holds exactly `bytes`, from address 0 (a buffer is always written whole: R33, R34). -/
def Memory.ofBytes (bytes : List Byte) : Memory := Memory.ofBytesFrom 0 bytes

/-- Bytes `a` to `a + n - 1` of a canonical store, none when one of them has no value. -/
def Memory.readFrom : Memory → Nat → Nat → Option (List Byte)
  | _, _, 0 => some []
  | [], _, _ + 1 => none
  | (k, b) :: m, a, n + 1 =>
    if k < a then Memory.readFrom m a (n + 1)
    else if k = a then (Memory.readFrom m (a + 1) n).map (b :: ·)
    else none

/-- The first `n` bytes of a store. -/
def Memory.readBytes (m : Memory) (n : Nat) : Option (List Byte) := Memory.readFrom m 0 n

/-! ### The profile of the session (R22, R42, R147) -/

/-- The profile of an 8-bit operand `A`: none when `A >= NPROF`. -/
def profileAt (a : Byte) (K : Cfg := cfg) : Option Profile := K.prof[a.toNat]?

/-- `p = PROF[PROFILE]` (R22). `PROFILE` has 2 bits and the default table has four profiles; a table without the
entry has no session that names it (assumption log 25). -/
def sessionProfile (s : State) (K : Cfg := cfg) : Profile := (K.prof[s.profile.toNat]?).getD (profile10 1 0)

/-- `p.video_unit` (R42): 135 video blocks a segment, each a block less its id (R71: 77 bytes). -/
def videoUnit (p : Profile) (K : Cfg := cfg) : Nat := p.C * p.S * 135 * (K.block - K.idLen)

/-- `p.half` (R42). -/
def halfSegs (p : Profile) : Nat := p.S / 2

/-- `p.audio_words` (R42). -/
def audioWords (p : Profile) : Nat := p.S * 9 * 36

/-- `Samples(p, n)` (R147). R247 (c) says that `SEQLEN` is not 0; R7 does not test it (assumption log 25). -/
def samplesOf (p : Profile) (n : Nat) (K : Cfg := cfg) : Nat := p.dist.getD (n % K.seqLen) 0

/-- `Req(p, n)` (R42, R147): bytes of one audio stream in frame `n`. -/
def req (p : Profile) (n : Nat) (K : Cfg := cfg) : Nat := 4 * samplesOf p n K

/-- A counter after it takes the value `n`: FRAMES and ABYTES count modulo `2^CTR_BITS` (R23, R25; assumption log
11). -/
def counter (n : Nat) (K : Cfg := cfg) : Counter := BitVec.ofNat 64 (n % 2 ^ K.ctrBits)

/-! ### FIFOs (R35) -/

/-- `FIFO[i]`, `i` = 0 or 1. -/
def fifoOf (s : State) (i : Nat) : List Byte := if i = 0 then s.fifo0 else s.fifo1

/-- `FifoWrite(i, bytes)` (R35): append at the tail. -/
def fifoWrite (s : State) (i : Nat) (bytes : List Byte) : State :=
  if i = 0 then { s with fifo0 := s.fifo0 ++ bytes } else { s with fifo1 := s.fifo1 ++ bytes }

/-- What `FifoRead(i, n)` removes (R35): the first `n` bytes of each of the first `k` FIFOs. -/
def fifosDrop (s : State) (k n : Nat) : State :=
  { s with
    fifo0 := if 0 < k then s.fifo0.drop n else s.fifo0
    fifo1 := if 1 < k then s.fifo1.drop n else s.fifo1 }

/-! ### How a command ends -/

/-- `return v` (R9, R102): class OK, code 0; `ERR` is not written (R334). -/
def State.respond (s : State) (ra : Byte) (rpay : List Byte) : State :=
  { s with response := some ⟨.ok, 0, ra, rpay⟩ }

/-- `return NOT_READY` (R102, R268): not an error, `ERR` is not written, zero-length result. -/
def State.respondNotReady (s : State) : State := { s with response := some ⟨.notReady, 0, 0, []⟩ }

/-- `raise Kind` (R9): the response has the kind's class and code, `ERR` takes the code (R334), and every
other piece of state stays as it was before the command (R328). -/
def State.raise (s : State) (k : Kind) : State :=
  { s with err := kindCode k, response := some (kindResponse k) }

/-- `Fatal(Kind)` (R292, R330): `raise Kind` in a demux session, which also ends the session. -/
def State.raiseFatal (s : State) (k : Kind) : State := { s.raise k with mode := .failed }

/-- Every piece of session state at its value of R38, column "reset and CLOSE". What the packet interface
holds stays: the operand registers, which the command has just written, the last response, and what the
host has sent. -/
def State.cleared (s : State) : State :=
  { State.reset with
    opc := s.opc, opA := s.opA, opB := s.opB, len := s.len, pay := s.pay
    response := s.response, inbox := s.inbox }

/-- A pure command (R103): its reply, or the condition it raises. No session state is read or written but
`ERR`; a fatal kind changes no `MODE` (R330). -/
def pureCommand (r : Except Kind Reply) (s : State) : Out :=
  .next (match r with
    | .ok v => s.respond v.ra v.rpay
    | .error k => s.raise k)

/-- A session command whose state changes are `r` and whose success answers `RA = ra` with no payload: a
raised condition keeps none of the changes (R328). -/
def sessionCommand (s : State) (ra : Byte) (r : Except Stop State) : Out :=
  match r with
  | .ok t => .next (t.respond ra [])
  | .error (.raised k) => .next (s.raise k)
  | .error (.faulted f) => .fault f

/-- The mode test of a session command (R329 (2), R336): SessionFailed in FAILED, else BadMode when the
mode is not the one the command needs. -/
def modeRefusal (need : Mode) (s : State) : Option Kind :=
  if s.mode = .failed then some .sessionFailed
  else if s.mode ≠ need then some .badMode
  else none

end Sys2Proof.Machine
end

