-- ==== Sys2Proof/Machine/Operands.lean ====
section
/-! DEFINITION. The operand forms of the commands: the context record (R105), the record date (R28, R272),
the stream descriptors of OPEN_MUX (R262), and the tests on `A` and `B` (R115, R329). -/

namespace Sys2Proof.Machine

/-- Whether `A` and `B` are both unused and zero (R100, R115). -/
def operandsZero (o : Operands) : Bool := o.a == 0 && o.b == 0

/-- `LEN` (R100): the packet's payload length. -/
def lenOf (o : Operands) : Nat := o.pay.length

/-- The context record `CTX` (R105). -/
structure Ctx where
  n : Nat
  naudio : Nat
  afreq : Nat
  aquant : Nat
  aspect : Nat
  date : RecordDate
deriving DecidableEq, Repr

/-- The legal ranges of R28. -/
def dateInRange (d : RecordDate) : Bool :=
  decide (d.yy.toNat ≤ 99) && decide (d.mo.toNat ≤ 19) && decide (d.dd.toNat ≤ 39)
    && decide (d.hh.toNat ≤ 39) && decide (d.mi.toNat ≤ 79) && decide (d.ss.toNat ≤ 79)

/-- Six payload bytes from offset `a` as a record date (R105, R272). -/
def dateAt (bs : List Byte) (a : Nat) : RecordDate :=
  ⟨payAt bs a, payAt bs (a + 1), payAt bs (a + 2), payAt bs (a + 3), payAt bs (a + 4), payAt bs (a + 5)⟩

/-- The bytes of a record date (R274, bytes 34 to 39). -/
def dateBytes (d : RecordDate) : List Byte := [d.yy, d.mo, d.dd, d.hh, d.mi, d.ss]

/-- An 18-byte payload as a context record (R105). -/
def ctxOf (bs : List Byte) : Ctx :=
  ⟨leNat (slice bs 0 8), (payAt bs 8).toNat, (payAt bs 9).toNat, (payAt bs 10).toNat, (payAt bs 11).toNat,
    dateAt bs 12⟩

/-- The field ranges of R105. -/
def ctxInRange (x : Ctx) : Bool :=
  decide (x.naudio ≤ 2) && decide (x.afreq ≤ 2) && decide (x.aquant ≤ 1) && decide (x.aspect ≤ 7)
    && dateInRange x.date

/-- `Ctx()` of a mux session (R105). -/
def sessionCtx (s : State) : Ctx :=
  ⟨s.frames.toNat, s.naudio.toNat, s.afreq.toNat, s.aquant.toNat, s.aspect.toNat, s.recdt⟩

/-- One audio stream descriptor of OPEN_MUX (R262). -/
structure AudioDesc where
  acodec : Byte
  ach : Byte
  abits : Byte
  reserved : Byte
  arate : Nat
deriving DecidableEq, Repr

/-- Audio descriptor `i` of an OPEN_MUX payload: bytes `12 + 8i` to `19 + 8i` (R262). -/
def audioDescAt (bs : List Byte) (i : Nat) : AudioDesc :=
  ⟨payAt bs (12 + 8 * i), payAt bs (13 + 8 * i), payAt bs (14 + 8 * i), payAt bs (15 + 8 * i),
    leNat (slice bs (16 + 8 * i) 4)⟩

/-- The stream descriptors of OPEN_MUX (R262). -/
structure MuxDesc where
  vcodec : Byte
  C : Nat
  S : Nat
  aspect : Nat
  F : Nat
  /-- bytes 9 to 11, reserved -/
  reserved : List Byte
  audio : List AudioDesc
deriving DecidableEq, Repr

/-- Number of audio descriptors: payload byte 8 (R262). -/
def audioCount (bs : List Byte) : Nat := (payAt bs 8).toNat

/-- An OPEN_MUX payload of `12 + 8n` bytes (R262). -/
def muxDescOf (bs : List Byte) : MuxDesc where
  vcodec := payAt bs 0
  C := (payAt bs 1).toNat
  S := (payAt bs 2).toNat
  aspect := (payAt bs 3).toNat
  F := leNat (slice bs 4 4)
  reserved := slice bs 9 3
  audio := (List.range (audioCount bs)).map (audioDescAt bs)

/-- Whether every reserved byte of an OPEN_MUX payload is zero (R104, R262). -/
def reservedZero (d : MuxDesc) : Bool :=
  d.reserved.all (· == 0) && d.audio.all (fun x => x.reserved == 0)

/-- The only audio format the mux side takes (R262 (b)): linear PCM, 2 channels, 16 bits, 48000 Hz. -/
def audioSupported (x : AudioDesc) : Bool :=
  x.acodec == 0 && x.ach == 2 && x.abits == 16 && x.arate == 48000

end Sys2Proof.Machine
end

