-- ==== Sys2Proof/Machine/ProfileTable.lean ====
section
/-! DEFINITION. The profile table family (40_profile_tables): profile selection and detection, the
distribution-table lookups, and PROFILE_SELECT, PROFILE_DETECT, KIND_LOOKUP. -/

namespace Sys2Proof.Machine

/-- `SelectProfile(C, S, F)` (R142): the id of the one profile with this triple. R142 promises at most one match for
the default table only, and R7 lets another table hold two: there the model answers the lowest id.
DESIGN CHOICE, unsafe (assumption log 25). -/
def selectProfile (C S F : Nat) (K : Cfg := cfg) : Option Nat :=
  K.prof.findIdx? fun q => q.C == C && q.S == S && q.frameSize == F

/-- Address of the fixed video source pack (R216, `VsAddr`). -/
def vsAddr (K : Cfg := cfg) : Nat := K.block * 5 + K.idLen + K.packLen * 9

/-- Address of the fixed video control pack (R216, `VcAddr`). -/
def vcAddr (K : Cfg := cfg) : Nat := K.block * 5 + K.idLen + K.packLen * 10

/-- Address of the fixed audio source pack (R216, `AsAddr`). -/
def asAddr (K : Cfg := cfg) : Nat := K.block * (6 + 16 * 3) + K.idLen

/-- Address of the fixed audio control pack (R216, `AcAddr`). -/
def acAddr (K : Cfg := cfg) : Nat := K.block * (6 + 16 * 4) + K.idLen

/-- `DetectProfile(buf)` (R144), for a buffer of at least `PROFILE_BYTES` bytes: the section byte, the header
pack's selector and two bytes of the fixed video source pack are read (bytes 0, 3, 448 and 451). R144 promises one
profile for each `(dsf, C)` in the default table only, and R7 lets another table hold two: there the model answers
the lowest id. Where another configuration's `K_HDR` has bit 7 set, which R112 makes the field `dsf`, no buffer is
detected: the byte is compared without its bit 7 (R144). DESIGN CHOICE, unsafe (assumption log 25). -/
def detectProfile (buf : List Byte) (K : Cfg := cfg) : Option Nat :=
  if payAt buf 0 ≠ K.sect .header ∨ payAt buf K.idLen &&& 0x7F ≠ K.selector .hdr then none
  else
    let dsf := (payAt buf K.idLen).getLsbD 7
    let two := payAt buf (vsAddr K) == K.selector .videoSource && (payAt buf (vsAddr K + 3)).getLsbD 2
    let C := if two then 2 else 1
    K.prof.findIdx? fun q => q.dsf == dsf && q.C == C

/-- A lookup in a distribution table; the caller has tested segment and slot. A table of another configuration that
lacks the entry reads `NOPACK` there. DESIGN CHOICE, unsafe (assumption log 25). -/
def tableAt (t : List (List PackKind)) (s k : Nat) : PackKind := (t.getD s []).getD k .nopack

/-- `SubKind(p, s, k)` (R146): the tables are the same for every profile. -/
def subKind (s k : Nat) (K : Cfg := cfg) : PackKind := tableAt K.subk s k

/-- `AuxKind(p, s, k)` (R146). -/
def auxKind (s k : Nat) (K : Cfg := cfg) : PackKind := tableAt K.auxk s k

/-- `AudKind(p, s, g)` (R146). -/
def audKind (s g : Nat) (K : Cfg := cfg) : PackKind := tableAt K.audk s g

/-- What PROFILE_SELECT answers (R141), checks in the order of R329. -/
def profileSelectReply (o : Operands) (K : Cfg := cfg) : Except Kind Reply :=
  if !operandsZero o then .error .badOperand
  else if lenOf o ≠ 6 then .error .lengthMismatch
  else match selectProfile (payAt o.pay 0).toNat (payAt o.pay 1).toNat (leNat (slice o.pay 2 4)) K with
    | none => .error .profileUnrecognized
    | some r => .ok ⟨byte r, []⟩

/-- PROFILE_SELECT (R141). -/
def execProfileSelect (o : Operands) (s : State) : Out := pureCommand (profileSelectReply o) s

/-- What PROFILE_DETECT answers (R143). -/
def profileDetectReply (o : Operands) (K : Cfg := cfg) : Except Kind Reply :=
  if !operandsZero o then .error .badOperand
  else if lenOf o < K.profileBytes then .error .incompleteInput
  else match detectProfile o.pay K with
    | none => .error .profileUnrecognized
    | some r => .ok ⟨byte r, []⟩

/-- PROFILE_DETECT (R143). -/
def execProfileDetect (o : Operands) (s : State) : Out := pureCommand (profileDetectReply o) s

/-- The kind of a KIND_LOOKUP payload (R145): table, segment, slot; none when one is out of range. -/
def kindLookup (p : Profile) (table seg slot : Nat) (K : Cfg := cfg) : Option PackKind :=
  if seg ≥ p.S then none
  else if table = 0 then (if slot < 6 then some (subKind seg slot K) else none)
  else if table = 1 then (if slot < 15 then some (auxKind seg slot K) else none)
  else if table = 2 then (if slot < 9 then some (audKind seg slot K) else none)
  else none

/-- What KIND_LOOKUP answers (R145). In a table of another configuration that holds the header pack, whose selector
R112 gives two bytes by `dsf`, `RA` is the one with `dsf = 0` for every profile. DESIGN CHOICE, unsafe (assumption
log 25). -/
def kindLookupReply (o : Operands) (K : Cfg := cfg) : Except Kind Reply :=
  match profileAt o.a K with
  | none => .error .badOperand
  | some p =>
    if o.b ≠ 0 then .error .badOperand
    else if lenOf o ≠ 3 then .error .lengthMismatch
    else match kindLookup p (payAt o.pay 0).toNat (payAt o.pay 1).toNat (payAt o.pay 2).toNat K with
      | none => .error .badOperand
      | some k => .ok ⟨K.selector k, []⟩

/-- KIND_LOOKUP (R145). -/
def execKindLookup (o : Operands) (s : State) : Out := pureCommand (kindLookupReply o) s

end Sys2Proof.Machine
end

