-- ==== Sys2Proof/Machine/Packs.lean ====
section
/-! DEFINITION. The pack family (41_pack_codec): PACK_ENC, PACK_DEC, TC_DERIVE, the timecode label, the
pack the assembler writes for each kind, and the meaning of a pack presented by itself. -/

namespace Sys2Proof.Machine

/-! ### PACK_ENC and PACK_DEC -/

/-- What PACK_ENC answers (R161). -/
def packEncReply (o : Operands) (K : Cfg := cfg) : Except Kind Reply :=
  match kindOfSelector o.a K with
  | none => .error .badOperand
  | some (k, dsf) =>
    if o.b ≠ 0 then .error .badOperand
    else match encodePack k dsf (o.pay.map BitVec.toNat) K with
      | .error e => .error e
      | .ok bs => .ok ⟨0, bs⟩

/-- PACK_ENC (R161). -/
def execPackEnc (o : Operands) (s : State) : Out := pureCommand (packEncReply o) s

/-- The answer to a pack of five bytes (R162): `RA` is its selector byte, one result byte a field; a
selector outside the map is BadOperand (R114). -/
def decodeReply (bs : List Byte) (K : Cfg := cfg) : Except Kind Reply :=
  match decodePack bs K with
  | none => .error .badOperand
  | some (_, _, vs) => .ok ⟨payAt bs 0, fieldBytes vs⟩

/-- What PACK_DEC answers (R162). -/
def packDecReply (o : Operands) (K : Cfg := cfg) : Except Kind Reply :=
  if !operandsZero o then .error .badOperand
  else if lenOf o ≠ K.packLen then .error .lengthMismatch
  else decodeReply o.pay K

/-- PACK_DEC (R162). -/
def execPackDec (o : Operands) (s : State) : Out := pureCommand (packDecReply o) s

/-! ### Timecode -/

/-- A timecode label `h:m:s:f` (R167). -/
structure Label where
  h : Nat
  m : Nat
  s : Nat
  f : Nat
deriving DecidableEq, Repr

/-- The number of the label of frame `n` counted without skips: `n2` of R167. -/
def labelNumber (p : Profile) (n : Nat) : Nat :=
  if p.drop then
    let D := n / 17982
    let M := n % 17982
    n + 18 * D + (if M ≥ 2 then 2 * ((M - 2) / 1798) else 0)
  else n

/-- `TcLabel(p, n)` (R167), in the closed form the rule gives. R247 (c) says that `ltc` is not 0; R7 does not test it
(assumption log 25). -/
def tcLabel (p : Profile) (n : Nat) : Label :=
  let n2 := labelNumber p n
  ⟨n2 / (3600 * p.ltc) % 24, n2 / (60 * p.ltc) % 60, n2 / p.ltc % 60, n2 % p.ltc⟩

/-- What TC_DERIVE answers (R167). A frame number above 255, which only a profile with `ltc > 256` has, shows its low
8 bits. DESIGN CHOICE, unsafe (assumption log 25). -/
def tcDeriveReply (o : Operands) (K : Cfg := cfg) : Except Kind Reply :=
  match profileAt o.a K with
  | none => .error .badOperand
  | some p =>
    if o.b ≠ 0 then .error .badOperand
    else if lenOf o ≠ 8 then .error .lengthMismatch
    else
      let l := tcLabel p (leNat o.pay)
      .ok ⟨0, [byte l.h, byte l.m, byte l.s, byte l.f, byte p.drop.toNat]⟩

/-- TC_DERIVE (R167). -/
def execTcDerive (o : Operands) (s : State) : Out := pureCommand (tcDeriveReply o) s

/-! ### The assembler's packs -/

/-- `Tens(v)` (R163). -/
def tens (v : Nat) : Nat := v / 10

/-- `Units(v)` (R163). -/
def units (v : Nat) : Nat := v % 10

/-- `Delta(p, n, f)` (R147). The subtraction is on natural numbers: every configuration that is
well-formed has the difference non-negative (R247 (d); assumption log 20). An entry that `mins` lacks reads 0
(assumption log 25). -/
def delta (p : Profile) (n f : Nat) (K : Cfg := cfg) : Nat := samplesOf p n K - p.mins.getD f 0

/-- Assembler values of the header pack (R165). -/
def hdrValues (p : Profile) : HdrFields := ⟨p.dsf, 0, 0, 0, 0, 0, 0, 0⟩

/-- Assembler values of the timecode pack (R166). -/
def tcValues (p : Profile) (x : Ctx) : TcFields where
  cf := 0
  df := p.drop.toNat
  ft := tens (tcLabel p x.n).f
  fu := units (tcLabel p x.n).f
  pc := 1
  st := tens (tcLabel p x.n).s
  su := units (tcLabel p x.n).s
  bgf0 := 1
  mt := tens (tcLabel p x.n).m
  mu := units (tcLabel p x.n).m
  bgf2 := 1
  bgf1 := 1
  ht := tens (tcLabel p x.n).h
  hu := units (tcLabel p x.n).h

/-- Assembler values of the audio source pack (R170). -/
def audioSourceValues (p : Profile) (x : Ctx) (K : Cfg := cfg) : AudioSourceFields where
  lf := 0
  afsize := delta p x.n x.afreq K
  sm := 0
  chn := 0
  pa := 0
  amode := 0
  ml := 1
  f5060 := p.dsf.toNat
  stype := if x.naudio = 2 then 2 else 0
  ef := 1
  tc := 0
  smp := x.afreq
  qu := x.aquant

/-- Assembler values of the audio control pack (R171). -/
def audioControlValues : AudioControlFields where
  cgms := 0
  isr := 1
  cmp := 3
  ss := 0
  recst := 1
  recend := 1
  recmode := 1
  insch := 7
  drf := 1
  speed := 0x20
  genre := 0x7F

/-- Assembler values of the record date packs (R172). -/
def recDateValues (d : RecordDate) : RecDateFields where
  tz := 0xFF
  dt := tens d.dd.toNat
  du := units d.dd.toNat
  week := 0
  mt := tens d.mo.toNat
  mu := units d.mo.toNat
  yt := tens d.yy.toNat
  yu := units d.yy.toNat

/-- Assembler values of the record time packs (R173). -/
def recTimeValues (d : RecordDate) : RecTimeFields where
  ft := 3
  fu := 15
  st := tens d.ss.toNat
  su := units d.ss.toNat
  mt := tens d.mi.toNat
  mu := units d.mi.toNat
  ht := tens d.hh.toNat
  hu := units d.hh.toNat

/-- Assembler values of the video source pack (R175). -/
def videoSourceValues (p : Profile) : VideoSourceFields where
  tvch := 0xFF
  bw := 1
  en := 1
  clf := 3
  f5060 := p.dsf.toNat
  stype := p.vstype
  visc := 0xFF

/-- Assembler values of the video control pack (R176). -/
def videoControlValues (x : Ctx) : VideoControlFields where
  cgms := 0
  aspect := x.aspect
  ff := 1
  fs := 1
  fc := 1
  il := 1

/-- The assembler values of a kind, in payload order (R178). -/
def assemblerValues (k : PackKind) (p : Profile) (x : Ctx) (K : Cfg := cfg) : List Nat :=
  match k with
  | .hdr => hdrList (hdrValues p)
  | .tc => tcList (tcValues p x)
  | .audioSource => audioSourceList (audioSourceValues p x K)
  | .audioControl => audioControlList audioControlValues
  | .audioRecDate => recDateList (recDateValues x.date)
  | .audioRecTime => recTimeList (recTimeValues x.date)
  | .videoSource => videoSourceList (videoSourceValues p)
  | .videoControl => videoControlList (videoControlValues x)
  | .videoRecDate => recDateList (recDateValues x.date)
  | .videoRecTime => recTimeList (recTimeValues x.date)
  | .nopack => []

/-- `MakePack(kind, p, ctx)` (R178): a derivation whose result does not fit raises FieldRange. -/
def makePack (k : PackKind) (p : Profile) (x : Ctx) (K : Cfg := cfg) : Except Kind (List Byte) :=
  encodePack k p.dsf (assemblerValues k p x K) K

/-! ### A pack presented by itself (assumption log 3) -/

/-- The codec takes a pack of the given kind and fields: it encodes to its five bytes (R160; a field that
does not fit is FieldRange, R111) and the answer is what decoding those bytes gives (R162). -/
def presentPack (k : PackKind) (dsf : Bool) (vs : List Nat) (s : State) (K : Cfg := cfg) : Out :=
  pureCommand (match encodePack k dsf vs K with
    | .error e => .error e
    | .ok bs => decodeReply bs K) s

/-- Frame header pack (R165). -/
def execKHdr (f : HdrFields) (s : State) : Out := presentPack .hdr f.dsf (hdrList f) s

/-- Timecode pack (R166). -/
def execKTc (f : TcFields) (s : State) : Out := presentPack .tc false (tcList f) s

/-- Audio source pack (R170). -/
def execKAs (f : AudioSourceFields) (s : State) : Out := presentPack .audioSource false (audioSourceList f) s

/-- Audio control pack (R171). -/
def execKAc (f : AudioControlFields) (s : State) : Out :=
  presentPack .audioControl false (audioControlList f) s

/-- Audio record date pack (R172). -/
def execKArd (f : RecDateFields) (s : State) : Out := presentPack .audioRecDate false (recDateList f) s

/-- Audio record time pack (R173). -/
def execKArt (f : RecTimeFields) (s : State) : Out := presentPack .audioRecTime false (recTimeList f) s

/-- Video source pack (R175). -/
def execKVs (f : VideoSourceFields) (s : State) : Out := presentPack .videoSource false (videoSourceList f) s

/-- Video control pack (R176). -/
def execKVc (f : VideoControlFields) (s : State) : Out :=
  presentPack .videoControl false (videoControlList f) s

/-- Video record date pack (R172). -/
def execKVrd (f : RecDateFields) (s : State) : Out := presentPack .videoRecDate false (recDateList f) s

/-- Video record time pack (R173). -/
def execKVrt (f : RecTimeFields) (s : State) : Out := presentPack .videoRecTime false (recTimeList f) s

/-- The sentinel (R177). -/
def execNopack (s : State) : Out := presentPack .nopack false [] s

end Sys2Proof.Machine
end

