-- ==== Sys2Proof/Machine/FrameMap.lean ====
section
/-! DEFINITION. The frame address map (R62 to R72), the block id and the sub-record id (R106, R108), the
shuffle map (R230), and the meaning of an id presented by itself. -/

namespace Sys2Proof.Machine

/-! ### Addresses -/

/-- `SegBase(p, c, s)` (R63). -/
def segBase (p : Profile) (c s : Nat) (K : Cfg := cfg) : Nat := (c * p.S + s) * (K.segBlocks * K.block)

/-- `HeaderBlk(p, c, s)` (R64). -/
def headerBlk (p : Profile) (c s : Nat) (K : Cfg := cfg) : Nat := segBase p c s K

/-- `SubBlk(p, c, s, j)` (R64). -/
def subBlk (p : Profile) (c s j : Nat) (K : Cfg := cfg) : Nat := segBase p c s K + K.block * (1 + j)

/-- `AuxBlk(p, c, s, j)` (R64). -/
def auxBlk (p : Profile) (c s j : Nat) (K : Cfg := cfg) : Nat := segBase p c s K + K.block * (3 + j)

/-- `AudioBlk(p, c, s, g)` (R64). -/
def audioBlk (p : Profile) (c s g : Nat) (K : Cfg := cfg) : Nat := segBase p c s K + K.block * (6 + 16 * g)

/-- `VideoBlk(p, c, s, v)` (R64). -/
def videoBlk (p : Profile) (c s v : Nat) (K : Cfg := cfg) : Nat := segBase p c s K + K.block * (7 + v + v / 15)

/-- The segments of a frame in address order (R63): channel, then segment. -/
def segments (p : Profile) : List (Nat × Nat) :=
  (List.range p.C).flatMap fun c => (List.range p.S).map fun s => (c, s)

/-- The video payload addresses `VPAY(p)` (R72), in address order: of every video block, the bytes after its id
(R71: 3 to 79). -/
def videoAddrs (p : Profile) (K : Cfg := cfg) : List Nat :=
  (segments p).flatMap fun cs =>
    (List.range 135).flatMap fun v => (List.range (K.block - K.idLen)).map fun j =>
      videoBlk p cs.1 cs.2 v K + K.idLen + j

/-- Where the payload of an audio block begins: after its id and its pack (R70: byte 8). -/
def audioPayload (K : Cfg := cfg) : Nat := K.idLen + K.packLen

/-- The audio payload addresses `APAY(p, c)` (R72): of every audio block of channel `c`, the bytes after its id and
its pack (R70: 8 to 79). -/
def audioAddrs (p : Profile) (c : Nat) (K : Cfg := cfg) : List Nat :=
  (List.range p.S).flatMap fun s =>
    (List.range 9).flatMap fun g => (List.range (K.block - audioPayload K)).map fun j =>
      audioBlk p c s g K + audioPayload K + j

/-! ### Ids -/

/-- `BlkId(sect, c, s, num)` (R106). For a profile with more segments or channels than R40 names, byte 1 is the sum
modulo 256. DESIGN CHOICE, unsafe (assumption log 25). -/
def blkId (t : Section) (c s num : Nat) (K : Cfg := cfg) : List Byte :=
  [K.sect t, byte (s * 16 + c * 8 + 7), byte num]

/-- `fr` of R108: the segment lies in the first half of its channel. -/
def firstHalf (p : Profile) (s : Nat) : Bool := decide (s < halfSegs p)

/-- The three bytes of a sub-record id (R108). -/
def subIdBytes (fr : Bool) (k : Nat) : List Byte :=
  [byte (fr.toNat * 128 + 0x0F), byte (0xF0 + k), 0xFF]

/-- `SubId(p, s, k)` (R108). -/
def subIdOf (p : Profile) (s k : Nat) : List Byte := subIdBytes (firstHalf p s) k

/-- How many blocks of a section a segment has (R106: `num`). -/
def sectCount : Section → Nat
  | .header => 1
  | .subcode => 2
  | .aux => 3
  | .audio => 9
  | .video => 135

/-- A block id or sub-record id presented by itself is not examined: no state changes (R292 (d), R210,
93_implementation_defined U17). Assumption log 4. -/
def presentId (s : State) : Out := .next s

/-- Block id of a header block (R106). -/
def execSectHeader (_ : BlkIdFields) (s : State) : Out := presentId s

/-- Block id of a subcode block (R106). -/
def execSectSubcode (_ : BlkIdFields) (s : State) : Out := presentId s

/-- Block id of an auxiliary block (R106). -/
def execSectAux (_ : BlkIdFields) (s : State) : Out := presentId s

/-- Block id of an audio block (R106). -/
def execSectAudio (_ : BlkIdFields) (s : State) : Out := presentId s

/-- Block id of a video block (R106). -/
def execSectVideo (_ : BlkIdFields) (s : State) : Out := presentId s

/-- Sub-record id (R108). -/
def execSubId (_ : SubIdFields) (s : State) : Out := presentId s

/-! ### The shuffle map -/

/-- Entry of the shuffle table (R46); 0 where another configuration's table lacks it. DESIGN CHOICE, unsafe
(assumption log 25). -/
def shufEntry (p : Profile) (s g : Nat) : Nat := (p.shuf.getD s []).getD g 0

/-- `Sidx(p, s, g, k)` (R230): the PCM word index of slot `k` of audio block `g` of segment `s`. -/
def sidx (p : Profile) (s g k : Nat) : Nat := shufEntry p s g * p.stride + k * p.slotStep

end Sys2Proof.Machine
end

