-- ==== Sys2Proof/WellFormed.lean ====
section
/-! DEFINITION. When an instruction is well-formed: exactly the operand values its encoding can carry. -/

namespace Sys2Proof

open Sys2Proof.Machine

/-- A payload length fits the 32-bit field `LEN` or `RLEN` (R100). -/
def lengthFits (pay : List Byte) : Bool := decide (pay.length < 2 ^ 32)

/-- A pack's fields fit the widths of its kind (R111). -/
def packFits (k : PackKind) (vs : List Nat) : Bool := fieldsFit (widthsOf k) vs

/-- A block id names a segment 0 to 11 and a block its section has (R106). -/
def blkIdFits (t : Section) (f : BlkIdFields) : Bool :=
  decide (f.seg.toNat < 12) && decide (f.num.toNat < sectCount t)

/-- A sub-record number is 0 to 5 (R108). -/
def subIdFits (f : SubIdFields) : Bool := decide (f.syb.toNat < 6)

/-- Well-formedness of an instruction. -/
def Instr.wellFormed : Instr → Bool
  | .openMux o | .pushVideo o | .pushAudio o | .tryEmitFrame o | .openDemux o | .feedFrame o
  | .close o | .setRecdt o | .readStatus o | .profileSelect o | .profileDetect o | .kindLookup o
  | .packEnc o | .packDec o | .tcDerive o | .formatFrame o | .injectVideo o | .injectAudio o
  | .extractVideo o | .extractAudio o | .extractPack o | .expand12 o | .unpack12 o | .shufAddr o =>
    lengthFits o.pay
  | .kHdr f => packFits .hdr (hdrList f)
  | .kTc f => packFits .tc (tcList f)
  | .kAs f => packFits .audioSource (audioSourceList f)
  | .kAc f => packFits .audioControl (audioControlList f)
  | .kArd f => packFits .audioRecDate (recDateList f)
  | .kArt f => packFits .audioRecTime (recTimeList f)
  | .kVs f => packFits .videoSource (videoSourceList f)
  | .kVc f => packFits .videoControl (videoControlList f)
  | .kVrd f => packFits .videoRecDate (recDateList f)
  | .kVrt f => packFits .videoRecTime (recTimeList f)
  | .nopack => true
  | .sectHeader f => blkIdFits .header f
  | .sectSubcode f => blkIdFits .subcode f
  | .sectAux f => blkIdFits .aux f
  | .sectAudio f => blkIdFits .audio f
  | .sectVideo f => blkIdFits .video f
  | .subId f => subIdFits f
  | .classOk _ rpay => lengthFits rpay
  | .classRefused k => decide (kindClass k = .refused)
  | .classError k => decide (kindClass k = .error)
  | .classNotReady | .classIncomplete | .codeNone | .codeProfileUnrecognized
  | .codeUnsupportedQuantization | .codeIncompleteInput | .codeStreamTopologyInvalid | .codeBadOpcode
  | .codeBadMode | .codeBadOperand | .codeFieldRange | .codeLengthMismatch | .codePackMismatch
  | .codeFifoFull | .codeSessionFailed => true

end Sys2Proof
end

