-- ==== Sys2Proof/Decode.lean ====
section
/-! DEFINITION. Decoding a transfer into an instruction, total on any bytes and rejecting by name, and the
encoder; both are written from R100, R101, R102, R106, R108, R112 and R320. `decodeTableWord` reads a word as
spec/opcode_table.json numbers it. -/

namespace Sys2Proof

open Sys2Proof.Machine

/-! ### Commands (R100, R101) -/

/-- The opcode map (R101). -/
def commandOf (opc : Byte) (o : Operands) : Option Instr :=
  match opc.toNat with
  | 0x01 => some (.openMux o)
  | 0x02 => some (.pushVideo o)
  | 0x03 => some (.pushAudio o)
  | 0x04 => some (.tryEmitFrame o)
  | 0x05 => some (.openDemux o)
  | 0x06 => some (.feedFrame o)
  | 0x07 => some (.close o)
  | 0x08 => some (.setRecdt o)
  | 0x09 => some (.readStatus o)
  | 0x10 => some (.profileSelect o)
  | 0x11 => some (.profileDetect o)
  | 0x12 => some (.kindLookup o)
  | 0x20 => some (.packEnc o)
  | 0x21 => some (.packDec o)
  | 0x22 => some (.tcDerive o)
  | 0x30 => some (.formatFrame o)
  | 0x31 => some (.injectVideo o)
  | 0x32 => some (.injectAudio o)
  | 0x33 => some (.extractVideo o)
  | 0x34 => some (.extractAudio o)
  | 0x35 => some (.extractPack o)
  | 0x40 => some (.expand12 o)
  | 0x41 => some (.unpack12 o)
  | 0x42 => some (.shufAddr o)
  | _ => none

/-- The operands of a command packet: byte 1, bytes 2 and 3 low first, and the payload (R100, R104). -/
def packetOperands (bs : List Byte) : Operands :=
  ⟨payAt bs 1, BitVec.ofNat 16 (leNat (slice bs 2 2)), bs.drop 8⟩

/-- A command packet: 8 header bytes and exactly `LEN` payload bytes (R100). -/
def decodeCommand (bs : List Byte) : Except DecodeError Instr :=
  if bs.length < 8 then .error .shortHeader
  else if leNat (slice bs 4 4) ≠ bs.length - 8 then .error .lengthField
  else match commandOf (payAt bs 0) (packetOperands bs) with
    | some i => .ok i
    | none => .error .badOpcode

/-! ### Packs (R112) -/

/-- A pack of `PACKLEN` (five) bytes; constant bits are not looked at (R110). -/
def decodePackInstr (bs : List Byte) (K : Cfg := cfg) : Except DecodeError Instr :=
  if bs.length ≠ K.packLen then .error .packLength
  else match decodePack bs K with
    | some (k, dsf, vs) => .ok (packInstr k dsf vs)
    | none => .error .badSelector

/-! ### Block ids and sub-record ids (R106, R108) -/

/-- The section types in the order of R106. -/
def allSections : List Section := [.header, .subcode, .aux, .audio, .video]

/-- The block id constructor of a section. -/
def blkIdInstr : Section → BlkIdFields → Instr
  | .header => .sectHeader
  | .subcode => .sectSubcode
  | .aux => .sectAux
  | .audio => .sectAudio
  | .video => .sectVideo

/-- A block id: a section byte, `{seg, chan, 111}`, and a block number its section has (R106). Where another
configuration gives two sections one byte, the first in the order of R106 is read. DESIGN CHOICE, unsafe (assumption
log 25). -/
def decodeBlkId (bs : List Byte) (K : Cfg := cfg) : Except DecodeError Instr :=
  let b1 := payAt bs 1
  let f : BlkIdFields := ⟨b1.extractLsb' 4 4, b1.extractLsb' 3 1, payAt bs 2⟩
  if bs.length ≠ 3 ∨ b1.extractLsb' 0 3 ≠ 7 then .error .badBlockId
  else match allSections.find? (fun t => K.sect t == payAt bs 0) with
    | some t => if blkIdFits t f then .ok (blkIdInstr t f) else .error .badBlockId
    | none => .error .badBlockId

/-- A sub-record id: `{fr, 000, 1111}`, `{1111, syb}`, 0xFF (R108). -/
def decodeSubId (bs : List Byte) : Except DecodeError Instr :=
  let b0 := payAt bs 0
  let b1 := payAt bs 1
  let f : SubIdFields := ⟨b0.getLsbD 7, b1.extractLsb' 0 4⟩
  if bs.length ≠ 3 ∨ b0 &&& 0x7F ≠ 0x0F ∨ b1.extractLsb' 4 4 ≠ 0xF ∨ payAt bs 2 ≠ 0xFF then .error .badSubId
  else if subIdFits f then .ok (.subId f) else .error .badSubId

/-! ### Responses (R100, R102) and codes (R320) -/

/-- The instruction a response header is: class, code and result. -/
def responseInstr (cls code ra : Byte) (rpay : List Byte) : Option Instr :=
  match cls.toNat, kindOfCode code with
  | 0, _ => if code = 0 then some (.classOk ra rpay) else none
  | 1, _ => if code = 0 ∧ ra = 0 ∧ rpay = [] then some .classNotReady else none
  | 2, some .incompleteInput => if ra = 0 ∧ rpay = [] then some .classIncomplete else none
  | 3, some k => if kindClass k = .refused ∧ ra = 0 ∧ rpay = [] then some (.classRefused k) else none
  | 4, some k => if kindClass k = .error ∧ ra = 0 ∧ rpay = [] then some (.classError k) else none
  | _, _ => none

/-- A response packet: 8 header bytes, byte 3 zero, and exactly `RLEN` result bytes (R100). -/
def decodeResponse (bs : List Byte) : Except DecodeError Instr :=
  if bs.length < 8 ∨ payAt bs 3 ≠ 0 ∨ leNat (slice bs 4 4) ≠ bs.length - 8 then .error .badResponse
  else match responseInstr (payAt bs 0) (payAt bs 1) (payAt bs 2) (bs.drop 8) with
    | some i => .ok i
    | none => .error .badResponse

/-- The row of a condition's code (R320). -/
def codeInstr : Kind → Instr
  | .profileUnrecognized => .codeProfileUnrecognized
  | .unsupportedQuantization => .codeUnsupportedQuantization
  | .incompleteInput => .codeIncompleteInput
  | .streamTopologyInvalid => .codeStreamTopologyInvalid
  | .badOpcode => .codeBadOpcode
  | .badMode => .codeBadMode
  | .badOperand => .codeBadOperand
  | .fieldRange => .codeFieldRange
  | .lengthMismatch => .codeLengthMismatch
  | .packMismatch => .codePackMismatch
  | .fifoFull => .codeFifoFull
  | .sessionFailed => .codeSessionFailed

/-- A code byte (R320). -/
def decodeCode (bs : List Byte) : Except DecodeError Instr :=
  if bs.length ≠ 1 then .error .badCode
  else if payAt bs 0 = 0 then .ok .codeNone
  else match kindOfCode (payAt bs 0) with
    | some k => .ok (codeInstr k)
    | none => .error .badCode

/-! ### Decoding by format -/

/-- The instruction a transfer of a format holds. -/
def decodeAs (f : Format) (bs : List Byte) (K : Cfg := cfg) : Except DecodeError Instr :=
  match f with
  | .cmd => decodeCommand bs
  | .pack => decodePackInstr bs K
  | .blkid => decodeBlkId bs K
  | .subid => decodeSubId bs
  | .resp => decodeResponse bs
  | .code => decodeCode bs

/-! ### Encoding -/

/-- A command packet (R100). -/
def packet (opc : Nat) (o : Operands) : List Byte :=
  [byte opc, o.a] ++ leBytes 2 o.b.toNat ++ leBytes 4 o.pay.length ++ o.pay

/-- The five bytes of a pack (R109); no bytes for fields that do not fit. -/
def packEncoding (k : PackKind) (dsf : Bool) (vs : List Nat) (K : Cfg := cfg) : List Byte :=
  match encodePack k dsf vs K with
  | .ok bs => bs
  | .error _ => []

/-- The three bytes of a block id (R106). -/
def blkIdEncoding (t : Section) (f : BlkIdFields) (K : Cfg := cfg) : List Byte :=
  blkId t f.chan.toNat f.seg.toNat f.num.toNat K

/-- The bytes of an instruction, as the hardware's interface carries them. -/
def encode (i : Instr) (K : Cfg := cfg) : List Byte :=
  match i with
  | .openMux o => packet 0x01 o
  | .pushVideo o => packet 0x02 o
  | .pushAudio o => packet 0x03 o
  | .tryEmitFrame o => packet 0x04 o
  | .openDemux o => packet 0x05 o
  | .feedFrame o => packet 0x06 o
  | .close o => packet 0x07 o
  | .setRecdt o => packet 0x08 o
  | .readStatus o => packet 0x09 o
  | .profileSelect o => packet 0x10 o
  | .profileDetect o => packet 0x11 o
  | .kindLookup o => packet 0x12 o
  | .packEnc o => packet 0x20 o
  | .packDec o => packet 0x21 o
  | .tcDerive o => packet 0x22 o
  | .formatFrame o => packet 0x30 o
  | .injectVideo o => packet 0x31 o
  | .injectAudio o => packet 0x32 o
  | .extractVideo o => packet 0x33 o
  | .extractAudio o => packet 0x34 o
  | .extractPack o => packet 0x35 o
  | .expand12 o => packet 0x40 o
  | .unpack12 o => packet 0x41 o
  | .shufAddr o => packet 0x42 o
  | .kHdr f => packEncoding .hdr f.dsf (hdrList f) K
  | .kTc f => packEncoding .tc false (tcList f) K
  | .kAs f => packEncoding .audioSource false (audioSourceList f) K
  | .kAc f => packEncoding .audioControl false (audioControlList f) K
  | .kArd f => packEncoding .audioRecDate false (recDateList f) K
  | .kArt f => packEncoding .audioRecTime false (recTimeList f) K
  | .kVs f => packEncoding .videoSource false (videoSourceList f) K
  | .kVc f => packEncoding .videoControl false (videoControlList f) K
  | .kVrd f => packEncoding .videoRecDate false (recDateList f) K
  | .kVrt f => packEncoding .videoRecTime false (recTimeList f) K
  | .nopack => packEncoding .nopack false [] K
  | .sectHeader f => blkIdEncoding .header f K
  | .sectSubcode f => blkIdEncoding .subcode f K
  | .sectAux f => blkIdEncoding .aux f K
  | .sectAudio f => blkIdEncoding .audio f K
  | .sectVideo f => blkIdEncoding .video f K
  | .subId f => subIdBytes f.fr f.syb.toNat
  | .classOk ra rpay => responseBytes ⟨.ok, 0, ra, rpay⟩
  | .classNotReady => responseBytes ⟨.notReady, 0, 0, []⟩
  | .classIncomplete => responseBytes (kindResponse .incompleteInput)
  | .classRefused k => responseBytes ⟨.refused, kindCode k, 0, []⟩
  | .classError k => responseBytes ⟨.error, kindCode k, 0, []⟩
  | .codeNone => [0]
  | .codeProfileUnrecognized => [kindCode .profileUnrecognized]
  | .codeUnsupportedQuantization => [kindCode .unsupportedQuantization]
  | .codeIncompleteInput => [kindCode .incompleteInput]
  | .codeStreamTopologyInvalid => [kindCode .streamTopologyInvalid]
  | .codeBadOpcode => [kindCode .badOpcode]
  | .codeBadMode => [kindCode .badMode]
  | .codeBadOperand => [kindCode .badOperand]
  | .codeFieldRange => [kindCode .fieldRange]
  | .codeLengthMismatch => [kindCode .lengthMismatch]
  | .codePackMismatch => [kindCode .packMismatch]
  | .codeFifoFull => [kindCode .fifoFull]
  | .codeSessionFailed => [kindCode .sessionFailed]

/-- The format of an instruction: the "format" column of the opcode table. -/
def formatOf : Instr → Format
  | .openMux _ | .pushVideo _ | .pushAudio _ | .tryEmitFrame _ | .openDemux _ | .feedFrame _
  | .close _ | .setRecdt _ | .readStatus _ | .profileSelect _ | .profileDetect _ | .kindLookup _
  | .packEnc _ | .packDec _ | .tcDerive _ | .formatFrame _ | .injectVideo _ | .injectAudio _
  | .extractVideo _ | .extractAudio _ | .extractPack _ | .expand12 _ | .unpack12 _ | .shufAddr _ => .cmd
  | .kHdr _ | .kTc _ | .kAs _ | .kAc _ | .kArd _ | .kArt _ | .kVs _ | .kVc _ | .kVrd _ | .kVrt _
  | .nopack => .pack
  | .sectHeader _ | .sectSubcode _ | .sectAux _ | .sectAudio _ | .sectVideo _ => .blkid
  | .subId _ => .subid
  | .classOk _ _ | .classNotReady | .classIncomplete | .classRefused _ | .classError _ => .resp
  | .codeNone | .codeProfileUnrecognized | .codeUnsupportedQuantization | .codeIncompleteInput
  | .codeStreamTopologyInvalid | .codeBadOpcode | .codeBadMode | .codeBadOperand | .codeFieldRange
  | .codeLengthMismatch | .codePackMismatch | .codeFifoFull | .codeSessionFailed => .code

/-! ### Words of the opcode table -/

/-- The format a one-byte word of the table is read in: the opcode map comes first, and only a byte outside it
is read as a response class or a code (assumption log 16). -/
def oneByteFormat (w : Nat) : Format :=
  if (commandOf (byte w) ⟨0, 0, []⟩).isSome then .cmd
  else if byte w = 0 then .resp
  else if (kindOfCode (byte w)).isSome then .code
  else .cmd

/-- The transfer an opcode-table word stands for. The table writes an id (24 bits) and a pack (40 bits) as
ONE number with byte 0 highest; a command row or a response row gives byte 0 only, and the rest of the header
is zero (assumption log 16). -/
def tableTransfer (nbits w : Nat) : Format × List Byte :=
  if nbits = 40 then (.pack, beBytes 5 w)
  else if nbits = 24 then
    (if w / 65536 % 128 = 0x0F then .subid else .blkid, beBytes 3 w)
  else if nbits = 8 ∧ oneByteFormat w = .code then (.code, [byte w])
  else if nbits = 8 then (oneByteFormat w, leBytes 8 (w % 256))
  else (.cmd, leBytes (max 8 ((nbits + 7) / 8)) (w % 2 ^ nbits))

/-- The instruction the decoder reads from a word of the opcode table, none where it refuses. -/
def decodeTableWord (nbits w : Nat) : Option Instr :=
  match decodeAs (tableTransfer nbits w).1 (tableTransfer nbits w).2 with
  | .ok i => some i
  | .error _ => none

end Sys2Proof
end

