-- ==== Sys2Proof/Machine/Frame.lean ====
section
/-! DEFINITION. The frame assembler and the byte-aligned extractor (42_frame_assembler): FORMAT_FRAME,
INJECT_VIDEO, EXTRACT_VIDEO, EXTRACT_PACK. Every frame operation is a list of single-byte writes in the
order of the rule's pseudocode (R80; assumption log 23). -/

namespace Sys2Proof.Machine

/-! ### The skeleton (R200) -/

/-- The pack kinds a skeleton of the profile holds (R200); with no audio stream every audio block holds
NOPACK. -/
def kindsWritten (p : Profile) (x : Ctx) (K : Cfg := cfg) : List PackKind :=
  .hdr :: ((List.range p.S).flatMap fun s =>
    (List.range 6).map (fun k => subKind s k K) ++ (List.range 15).map (fun k => auxKind s k K)
      ++ (List.range 9).map fun g => if x.naudio > 0 then audKind s g K else .nopack)

/-- The bytes of a pack that `formatFrame` has found to fit; a pack that does not fit has none. -/
def packBytes (k : PackKind) (p : Profile) (x : Ctx) (K : Cfg := cfg) : List Byte :=
  match makePack k p x K with
  | .ok bs => bs
  | .error _ => []

/-- Header block of R200. -/
def headerWrites (p : Profile) (x : Ctx) (c s : Nat) (K : Cfg := cfg) : List (Nat × Byte) :=
  let a := headerBlk p c s K
  writesAt a (blkId .header c s 0 K) ++ writesAt (a + K.idLen) (packBytes .hdr p x K)

/-- Subcode block `j` of R200: sub-record `k` is a sub-record id and a pack (R67). -/
def subcodeWrites (p : Profile) (x : Ctx) (c s j : Nat) (K : Cfg := cfg) : List (Nat × Byte) :=
  let a := subBlk p c s j K
  writesAt a (blkId .subcode c s j K) ++ (List.range 6).flatMap fun k =>
    let r := a + K.idLen + (K.subIdLen + K.packLen) * k
    writesAt r (subIdOf p s k) ++ writesAt (r + K.subIdLen) (packBytes (subKind s k K) p x K)

/-- Auxiliary block `j` of R200. -/
def auxWrites (p : Profile) (x : Ctx) (c s j : Nat) (K : Cfg := cfg) : List (Nat × Byte) :=
  let a := auxBlk p c s j K
  writesAt a (blkId .aux c s j K) ++ (List.range 15).flatMap fun k =>
    writesAt (a + K.idLen + K.packLen * k) (packBytes (auxKind s k K) p x K)

/-- Audio block `g` and the 15 video blocks after it (R200). -/
def groupWrites (p : Profile) (x : Ctx) (c s g : Nat) (K : Cfg := cfg) : List (Nat × Byte) :=
  let a := audioBlk p c s g K
  writesAt a (blkId .audio c s g K)
    ++ writesAt (a + K.idLen) (packBytes (if x.naudio > 0 then audKind s g K else .nopack) p x K)
    ++ (List.range 15).flatMap fun i =>
        writesAt (videoBlk p c s (15 * g + i) K) (blkId .video c s (15 * g + i) K)

/-- The writes of FORMAT_FRAME, in its order (R200). Where another configuration makes regions overlap, the later
write stands. DESIGN CHOICE, unsafe (assumption log 25). -/
def formatWrites (p : Profile) (x : Ctx) (K : Cfg := cfg) : List (Nat × Byte) :=
  (segments p).flatMap fun cs =>
    headerWrites p x cs.1 cs.2 K
      ++ (List.range 2).flatMap (fun j => subcodeWrites p x cs.1 cs.2 j K)
      ++ (List.range 3).flatMap (fun j => auxWrites p x cs.1 cs.2 j K)
      ++ (List.range 9).flatMap (fun g => groupWrites p x cs.1 cs.2 g K)

/-- The frame full of filler that R200 starts from. -/
def blankFrame (p : Profile) (K : Cfg := cfg) : Buffer := Array.replicate p.frameSize K.fill

/-- `FormatFrame(p, ctx)` (R200): FieldRange when a pack of the skeleton does not fit (R178). -/
def formatFrame (p : Profile) (x : Ctx) (K : Cfg := cfg) : Except Kind Buffer :=
  if (kindsWritten p x K).all fun k => (makePack k p x K).isOk then
    .ok (applyWrites (blankFrame p K) (formatWrites p x K))
  else .error .fieldRange

/-- What FORMAT_FRAME answers (R200). -/
def formatFrameReply (o : Operands) (K : Cfg := cfg) : Except Kind Reply :=
  match profileAt o.a K with
  | none => .error .badOperand
  | some p =>
    if o.b ≠ 0 then .error .badOperand
    else if lenOf o ≠ 18 then .error .lengthMismatch
    else if !ctxInRange (ctxOf o.pay) || decide ((ctxOf o.pay).naudio > p.C) then .error .fieldRange
    else match formatFrame p (ctxOf o.pay) K with
      | .error e => .error e
      | .ok F => .ok ⟨0, F.toList⟩

/-- FORMAT_FRAME (R200). -/
def execFormatFrame (o : Operands) (s : State) : Out := pureCommand (formatFrameReply o) s

/-! ### Video injection and extraction (R205, R210) -/

/-- `InjectVideo(p, F, V)` (R205): the video unit is the concatenation of the video payload regions in
increasing frame address, so byte `i` of `V` goes to the `i`-th address of `VPAY(p)`. -/
def injectVideo (p : Profile) (F : Buffer) (V : List Byte) (K : Cfg := cfg) : Buffer :=
  applyWrites F ((videoAddrs p K).zip V)

/-- `ExtractVideo(p, F)` (R210). -/
def extractVideo (p : Profile) (F : Buffer) (K : Cfg := cfg) : List Byte := (videoAddrs p K).map (bufAt F)

/-- What INJECT_VIDEO answers (R205). -/
def injectVideoReply (o : Operands) (K : Cfg := cfg) : Except Kind Reply :=
  match profileAt o.a K with
  | none => .error .badOperand
  | some p =>
    if o.b ≠ 0 then .error .badOperand
    else if lenOf o ≠ p.frameSize + videoUnit p K then .error .lengthMismatch
    else .ok ⟨0, (injectVideo p (o.pay.take p.frameSize).toArray (o.pay.drop p.frameSize) K).toList⟩

/-- INJECT_VIDEO (R205). -/
def execInjectVideo (o : Operands) (s : State) : Out := pureCommand (injectVideoReply o) s

/-- What EXTRACT_VIDEO answers (R210). -/
def extractVideoReply (o : Operands) (K : Cfg := cfg) : Except Kind Reply :=
  match profileAt o.a K with
  | none => .error .badOperand
  | some p =>
    if o.b ≠ 0 then .error .badOperand
    else if lenOf o ≠ p.frameSize then .error .lengthMismatch
    else .ok ⟨0, extractVideo p o.pay.toArray K⟩

/-- EXTRACT_VIDEO (R210). -/
def execExtractVideo (o : Operands) (s : State) : Out := pureCommand (extractVideoReply o) s

/-! ### Pack extraction (R215, R216) -/

/-- The fixed offset of a kind byte (R216), none for a byte that is not one of the four kinds. Where another
configuration gives two of them one selector, the first below is taken. DESIGN CHOICE, unsafe (assumption log 25). -/
def fixedOffset (b : Half) (K : Cfg := cfg) : Option (Nat × Byte) :=
  if b = (K.selector .audioSource).setWidth 16 then some (asAddr K, K.selector .audioSource)
  else if b = (K.selector .audioControl).setWidth 16 then some (acAddr K, K.selector .audioControl)
  else if b = (K.selector .videoSource).setWidth 16 then some (vsAddr K, K.selector .videoSource)
  else if b = (K.selector .videoControl).setWidth 16 then some (vcAddr K, K.selector .videoControl)
  else none

/-- What EXTRACT_PACK answers (R215). In another configuration, where a frame may end inside the pack (R75 says that
no rule generates such an address), the answer is the bytes up to the end of the frame, fewer than `PACKLEN`; where it
ends before the pack, the selector read is 0. DESIGN CHOICE, unsafe (assumption log 25). -/
def extractPackReply (o : Operands) (K : Cfg := cfg) : Except Kind Reply :=
  match profileAt o.a K, fixedOffset o.b K with
  | some p, some (a, sel) =>
    if lenOf o ≠ p.frameSize then .error .lengthMismatch
    else if payAt o.pay a ≠ sel then .error .packMismatch
    else .ok ⟨0, slice o.pay a K.packLen⟩
  | _, _ => .error .badOperand

/-- EXTRACT_PACK (R215). -/
def execExtractPack (o : Operands) (s : State) : Out := pureCommand (extractPackReply o) s

end Sys2Proof.Machine
end

