-- ==== Sys2Proof/Machine/Audio.lean ====
section
/-! DEFINITION. The audio shuffle, de-shuffle and 12-bit expansion (43_audio_shuffle): INJECT_AUDIO,
EXTRACT_AUDIO, EXPAND12, UNPACK12, SHUF_ADDR. -/

namespace Sys2Proof.Machine

/-! ### 16-bit linear mode -/

/-- The slots `(s, g, k)` of a channel in the order of R233. -/
def slots (p : Profile) : List (Nat × Nat × Nat) :=
  (List.range p.S).flatMap fun s =>
    (List.range 9).flatMap fun g => (List.range 36).map fun k => (s, g, k)

/-- Frame address of the first byte of slot `k` (R70: `8 + 2*k`). -/
def slotAddr (p : Profile) (c s g k : Nat) (K : Cfg := cfg) : Nat := audioBlk p c s g K + audioPayload K + 2 * k

/-- A slot is live for a PCM buffer of `size` bytes (R232). -/
def slotLive (p : Profile) (size s g k : Nat) : Bool := decide (2 * sidx p s g k < size)

/-- The writes of `Shuffle16` (R233): a live slot receives the two PCM bytes of its word, swapped (R76); a
dead one keeps its bytes. -/
def shuffleWrites (p : Profile) (c : Nat) (P : Buffer) (size : Nat) (K : Cfg := cfg) : List (Nat × Byte) :=
  (slots p).flatMap fun t =>
    if slotLive p size t.1 t.2.1 t.2.2 then
      [(slotAddr p c t.1 t.2.1 t.2.2 K, bufAt P (2 * sidx p t.1 t.2.1 t.2.2 + 1)),
       (slotAddr p c t.1 t.2.1 t.2.2 K + 1, bufAt P (2 * sidx p t.1 t.2.1 t.2.2))]
    else []

/-- `Shuffle16(p, F, c, P, size)` (R233). -/
def shuffle16 (p : Profile) (F : Buffer) (c : Nat) (P : Buffer) (size : Nat) (K : Cfg := cfg) : Buffer :=
  applyWrites F (shuffleWrites p c P size K)

/-- The high and low byte of a wire word, zero for the silence code `MUTE16` (R236). -/
def unmute16 (hi lo : Byte) (K : Cfg := cfg) : Byte × Byte :=
  if hi = K.mute16.extractLsb' 8 8 ∧ lo = K.mute16.extractLsb' 0 8 then (0, 0) else (hi, lo)

/-- The writes of `Deshuffle16` into PCM space (R234). -/
def deshuffleWrites (p : Profile) (F : Buffer) (c size : Nat) (K : Cfg := cfg) : List (Nat × Byte) :=
  (slots p).flatMap fun t =>
    if slotLive p size t.1 t.2.1 t.2.2 then
      let a := slotAddr p c t.1 t.2.1 t.2.2 K
      let w := sidx p t.1 t.2.1 t.2.2
      let v := unmute16 (bufAt F a) (bufAt F (a + 1)) K
      [(2 * w, v.2), (2 * w + 1, v.1)]
    else []

/-- `Deshuffle16(p, F, c, size)` (R234): the output is zero before it is filled. -/
def deshuffle16 (p : Profile) (F : Buffer) (c size : Nat) (K : Cfg := cfg) : Buffer :=
  applyWrites (Array.replicate size 0) (deshuffleWrites p F c size K)

/-- What INJECT_AUDIO answers (R206). -/
def injectAudioReply (o : Operands) (K : Cfg := cfg) : Except Kind Reply :=
  match profileAt o.a K with
  | none => .error .badOperand
  | some p =>
    if o.b.toNat ≥ p.C then .error .badOperand
    else if lenOf o < p.frameSize then .error .lengthMismatch
    else
      let size := lenOf o - p.frameSize
      if size % 2 ≠ 0 ∨ size > 2 * audioWords p then .error .lengthMismatch
      else .ok ⟨0, (shuffle16 p (o.pay.take p.frameSize).toArray o.b.toNat
        (o.pay.drop p.frameSize).toArray size K).toList⟩

/-- INJECT_AUDIO (R206). -/
def execInjectAudio (o : Operands) (s : State) : Out := pureCommand (injectAudioReply o) s

/-! ### 12-bit nonlinear mode -/

/-- `Unpack12(b0, b1, b2)` (R240): the left code from byte 0 and the high nibble of byte 2, the right code
from byte 1 and the low nibble of byte 2. -/
def unpack12 (b0 b1 b2 : Byte) : BitVec 12 × BitVec 12 :=
  (b0 ++ b2.extractLsb' 4 4, b1 ++ b2.extractLsb' 0 4)

/-- `Expand12(code)` (R241): the code is sign-extended to 16 bits, `sel` is its top nibble, and all
arithmetic is modulo `2^16`. -/
def expand12 (code : BitVec 12) : BitVec 16 :=
  let v : BitVec 16 := code.signExtend 16
  let sel := (code.extractLsb' 8 4).toNat
  if sel ≤ 1 ∨ sel ≥ 14 then v
  else if sel ≤ 7 then (v - BitVec.ofNat 16 (256 * (sel - 1))) <<< (sel - 1)
  else ((v + BitVec.ofNat 16 (256 * (14 - sel)) + 1) <<< (14 - sel)) - 1

/-- `Decode12(code)` (R242): the muted code decodes to 0. -/
def decode12 (code : BitVec 12) (K : Cfg := cfg) : BitVec 16 := if code = K.mute12 then 0 else expand12 code

/-- A 16-bit sample as two PCM bytes, low byte first (R77 (a)). -/
def sampleBytes (r : BitVec 16) : Byte × Byte := (r.extractLsb' 0 8, r.extractLsb' 8 8)

/-- The triples `(s, g, t)` of stream `i` (R245): the first half of the segments is stream 0, the second
half stream 1. -/
def triples (p : Profile) (i : Nat) : List (Nat × Nat × Nat) :=
  (List.range p.S).flatMap fun s =>
    if (if s < halfSegs p then 0 else 1) = i then
      (List.range 9).flatMap fun g => (List.range 24).map fun t => (s, g, t)
    else []

/-- The two bytes a decoded sample writes at word `w`, none when the word lies outside the buffer
(R245). -/
def sampleWrites (w size : Nat) (r : BitVec 16) : List (Nat × Byte) :=
  if 2 * w < size then [(2 * w, (sampleBytes r).1), (2 * w + 1, (sampleBytes r).2)] else []

/-- The writes of `Deshuffle12` for stream `i` (R245): DIF channel 0 only; each sample of a triple is
bounds-tested by itself. -/
def deshuffle12Writes (p : Profile) (F : Buffer) (i size : Nat) (K : Cfg := cfg) : List (Nat × Byte) :=
  (triples p i).flatMap fun x =>
    let a := audioBlk p 0 x.1 x.2.1 K + audioPayload K + 3 * x.2.2
    let lr := unpack12 (bufAt F a) (bufAt F (a + 1)) (bufAt F (a + 2))
    let wl := shufEntry p (x.1 % halfSegs p) x.2.1 * p.stride + x.2.2 * p.slotStep
    let wr := shufEntry p (x.1 % halfSegs p + halfSegs p) x.2.1 * p.stride + x.2.2 * p.slotStep
    sampleWrites wl size (decode12 lr.1 K) ++ sampleWrites wr size (decode12 lr.2 K)

/-- Stream `i` of `Deshuffle12(p, F, ns, size)` (R245). -/
def deshuffle12 (p : Profile) (F : Buffer) (i size : Nat) (K : Cfg := cfg) : Buffer :=
  applyWrites (Array.replicate size 0) (deshuffle12Writes p F i size K)

/-- What UNPACK12 answers (R240). -/
def unpack12Reply (o : Operands) : Except Kind Reply :=
  if !operandsZero o then .error .badOperand
  else if lenOf o ≠ 3 then .error .lengthMismatch
  else
    let lr := unpack12 (payAt o.pay 0) (payAt o.pay 1) (payAt o.pay 2)
    .ok ⟨0, leBytes 2 lr.1.toNat ++ leBytes 2 lr.2.toNat⟩

/-- UNPACK12 (R240). -/
def execUnpack12 (o : Operands) (s : State) : Out := pureCommand (unpack12Reply o) s

/-- What EXPAND12 answers (R241). -/
def expand12Reply (o : Operands) : Except Kind Reply :=
  if o.a ≠ 0 ∨ o.b.toNat ≥ 4096 then .error .badOperand
  else if lenOf o ≠ 0 then .error .lengthMismatch
  else .ok ⟨0, leBytes 2 (expand12 (o.b.setWidth 12)).toNat⟩

/-- EXPAND12 (R241). -/
def execExpand12 (o : Operands) (s : State) : Out := pureCommand (expand12Reply o) s

/-- What SHUF_ADDR answers (R231). A word index or an address of another configuration that is wider than 32 bits
shows its low 32. DESIGN CHOICE, unsafe (assumption log 25). -/
def shufAddrReply (o : Operands) (K : Cfg := cfg) : Except Kind Reply :=
  match profileAt o.a K with
  | none => .error .badOperand
  | some p =>
    if o.b ≠ 0 then .error .badOperand
    else if lenOf o ≠ 4 then .error .lengthMismatch
    else
      let c := (payAt o.pay 0).toNat
      let s := (payAt o.pay 1).toNat
      let g := (payAt o.pay 2).toNat
      let k := (payAt o.pay 3).toNat
      if c < p.C ∧ s < p.S ∧ g < 9 ∧ k < 36 then
        .ok ⟨0, leBytes 4 (sidx p s g k) ++ leBytes 4 (slotAddr p c s g k K)⟩
      else .error .badOperand

/-- SHUF_ADDR (R231). -/
def execShufAddr (o : Operands) (s : State) : Out := pureCommand (shufAddrReply o) s

/-! ### Audio extraction (R243, R244) -/

/-- What the audio source pack says about a frame's audio (R243). -/
structure AudioParams where
  ns : Nat
  smp : Nat
  qu : Nat
  size : Nat
deriving DecidableEq, Repr

/-- `AudioParams(p, F)` (R243): none for a frame without audio; the quantization code is tested before the
frequency code. A profile of another configuration whose `mins` lacks the code reads 0 there. DESIGN CHOICE, unsafe
(assumption log 25). -/
def audioParams (p : Profile) (F : Buffer) (K : Cfg := cfg) : Except Kind (Option AudioParams) :=
  if bufAt F (asAddr K) ≠ K.selector .audioSource then .ok none
  else
    let afsize := bits (bufAt F (asAddr K + 1)) 5 0
    let stype := bits (bufAt F (asAddr K + 3)) 4 0
    let smp := bits (bufAt F (asAddr K + 4)) 5 3
    let qu := bits (bufAt F (asAddr K + 4)) 2 0
    if qu > 1 then .error .unsupportedQuantization
    else if smp > 2 then .error .profileUnrecognized
    else
      let ns := if (qu = 1 ∧ smp = 2) ∨ (qu = 0 ∧ stype = 2 ∧ p.C = 2) then 2 else 1
      .ok (some ⟨ns, smp, qu, 4 * (p.mins.getD smp 0 + afsize)⟩)

/-- The PCM bytes of stream `i` (R244): 16-bit stream `i` is DIF channel `i`. -/
def streamPcm (p : Profile) (F : Buffer) (ap : AudioParams) (i : Nat) (K : Cfg := cfg) : List Byte :=
  (if ap.qu = 0 then deshuffle16 p F i ap.size K else deshuffle12 p F i ap.size K).toList

/-- The PCM bytes of every active stream, one after the other (R244, R302). -/
def allPcm (p : Profile) (F : Buffer) (ap : AudioParams) (K : Cfg := cfg) : List Byte :=
  (List.range ap.ns).flatMap fun i => streamPcm p F ap i K

/-- What EXTRACT_AUDIO answers (R244). A `size` of another configuration that is wider than 32 bits shows its low 32.
DESIGN CHOICE, unsafe (assumption log 25). -/
def extractAudioReply (o : Operands) (K : Cfg := cfg) : Except Kind Reply :=
  match profileAt o.a K with
  | none => .error .badOperand
  | some p =>
    if o.b ≠ 0 then .error .badOperand
    else if lenOf o ≠ p.frameSize then .error .lengthMismatch
    else match audioParams p o.pay.toArray K with
      | .error e => .error e
      | .ok none => .ok ⟨0, [0, 0, 0, 0] ++ leBytes 4 0⟩
      | .ok (some ap) =>
        .ok ⟨byte ap.ns, [byte ap.ns, byte ap.smp, byte ap.qu, 0] ++ leBytes 4 ap.size
          ++ allPcm p o.pay.toArray ap K⟩

/-- EXTRACT_AUDIO (R244). -/
def execExtractAudio (o : Operands) (s : State) : Out := pureCommand (extractAudioReply o) s

end Sys2Proof.Machine
end

