-- ==== Sys2Proof/Machine/Mux.lean ====
section
/-! DEFINITION. The mux session (44_mux_session): OPEN_MUX, PUSH_VIDEO, PUSH_AUDIO, TRY_EMIT_FRAME,
SET_RECDT, READ_STATUS, and frame assembly. -/

namespace Sys2Proof.Machine

/-! ### Opening (R262) -/

/-- The checks of OPEN_MUX on its payload, in the order R262 prints them, and the profile id found. -/
def muxTopology (o : Operands) (K : Cfg := cfg) : Except Kind Nat :=
  if lenOf o < 12 then .error .lengthMismatch
  else if audioCount o.pay > 2 then .error .streamTopologyInvalid
  else if lenOf o ≠ 12 + 8 * audioCount o.pay then .error .lengthMismatch
  else
    let d := muxDescOf o.pay
    if !reservedZero d then .error .badOperand
    else if d.aspect > 7 then .error .fieldRange
    else if d.vcodec ≠ 0 then .error .streamTopologyInvalid
    else match selectProfile d.C d.S d.F K with
      | none => .error .streamTopologyInvalid
      | some r =>
        if !d.audio.all audioSupported then .error .streamTopologyInvalid
        else if audioCount o.pay > d.C then .error .streamTopologyInvalid
        else .ok r

/-- The state after a successful OPEN_MUX (R38, R262). -/
def openedMux (s : State) (r n aspect : Nat) : State :=
  { s.cleared with
    mode := .mux
    profile := BitVec.ofNat 2 r
    pvalid := true
    naudio := BitVec.ofNat 2 n
    aspect := BitVec.ofNat 3 aspect }

/-- OPEN_MUX (R262). -/
def openMux (o : Operands) (s : State) (K : Cfg := cfg) : Out :=
  match modeRefusal .closed s with
  | some k => .next (s.raise k)
  | none =>
    if !operandsZero o then .next (s.raise .badOperand)
    else match muxTopology o K with
      | .error k => .next (s.raise k)
      | .ok r => .next ((openedMux s r (audioCount o.pay) (payAt o.pay 3).toNat).respond (byte r) [])

/-- OPEN_MUX (R262), of the default configuration. -/
def execOpenMux (o : Operands) (s : State) : Out := openMux o s

/-! ### Assembly (R265 to R267) -/

/-- The readiness condition (R266): ACCUMULATING, a video unit pending, and every FIFO of the session holds
the bytes the current frame requires (R265). -/
def frameReady (s : State) (K : Cfg := cfg) : Bool :=
  decide (s.mstate = .accumulating) && s.vpend
    && (List.range s.naudio.toNat).all fun i =>
      decide (req (sessionProfile s K) s.frames.toNat K ≤ (fifoOf s i).length)

/-- The frame `Assemble()` builds from a video unit (R267): skeleton, video, then stream `i` into DIF
channel `i`. A channel without a stream keeps its filler (R246). -/
def assembledFrame (s : State) (V : List Byte) (K : Cfg := cfg) : Except Kind Buffer :=
  let p := sessionProfile s K
  let r := req p s.frames.toNat K
  match formatFrame p (sessionCtx s) K with
  | .error k => .error k
  | .ok F =>
    .ok ((List.range s.naudio.toNat).foldl
      (fun F i => shuffle16 p F i ((fifoOf s i).take r).toArray r K) (injectVideo p F V K))

/-- The state after assembly (R266, R267): exactly `r` bytes have left each FIFO, the video unit is used
up (VBUF has no meaning while `VPEND = 0`, R33) and the frame waits in FRAMEBUF. -/
def assembledState (s : State) (F : Buffer) (K : Cfg := cfg) : State :=
  { fifosDrop s s.naudio.toNat (req (sessionProfile s K) s.frames.toNat K) with
    framebuf := Memory.ofBytes F.toList
    vbuf := []
    vpend := false
    mstate := .ready }

/-- `Assemble()` with the writes of R266. -/
def assemble (s : State) (K : Cfg := cfg) : Except Stop State :=
  match Memory.readBytes s.vbuf (videoUnit (sessionProfile s K) K) with
  | none => .error (.faulted (.readUnspecified .vbuf))
  | some V =>
    match assembledFrame s V K with
    | .error k => .error (.raised k)
    | .ok F => .ok (assembledState s F K)

/-- `Evaluate()` (R266). -/
def evaluate (s : State) (K : Cfg := cfg) : Except Stop State :=
  if frameReady s K then assemble s K else .ok s

/-- EMITTED ends with the next push or TRY_EMIT_FRAME (R261); FRAMEBUF then has no meaning (R34). -/
def leaveEmitted (s : State) : State :=
  if s.mstate = .emitted then { s with mstate := .accumulating, framebuf := [] } else s

/-! ### Pushing (R263, R264) -/

/-- The writes of PUSH_VIDEO before `Evaluate` (R263). -/
def videoPushed (s : State) (V : List Byte) : State :=
  { flagsOnPushVideo (leaveEmitted s) with vbuf := Memory.ofBytes V }

/-- PUSH_VIDEO (R263). -/
def pushVideo (o : Operands) (s : State) (K : Cfg := cfg) : Out :=
  match modeRefusal .mux s with
  | some k => .next (s.raise k)
  | none =>
    if !operandsZero o then .next (s.raise .badOperand)
    else if lenOf o ≠ videoUnit (sessionProfile s K) K then .next (s.raise .lengthMismatch)
    else sessionCommand s 0 (evaluate (videoPushed s o.pay) K)

/-- PUSH_VIDEO (R263), of the default configuration. -/
def execPushVideo (o : Operands) (s : State) : Out := pushVideo o s

/-- The writes of PUSH_AUDIO before `Evaluate` (R264). -/
def audioPushed (s : State) (i : Nat) (bytes : List Byte) : State := fifoWrite (leaveEmitted s) i bytes

/-- PUSH_AUDIO (R264). A push that does not fit is refused whole and sets `AOVF`. -/
def pushAudio (o : Operands) (s : State) (K : Cfg := cfg) : Out :=
  match modeRefusal .mux s with
  | some k => .next (s.raise k)
  | none =>
    if o.a.toNat ≥ s.naudio.toNat ∨ o.b ≠ 0 then .next (s.raise .badOperand)
    else if (fifoOf s o.a.toNat).length + lenOf o > K.fifoCap then
      .next ((flagsOnFifoFull s).raise .fifoFull)
    else sessionCommand s 0 (evaluate (audioPushed s o.a.toNat o.pay) K)

/-- PUSH_AUDIO (R264), of the default configuration. -/
def execPushAudio (o : Operands) (s : State) : Out := pushAudio o s

/-! ### Emission (R268) -/

/-- What TRY_EMIT_FRAME does once `Evaluate` has run (R268). -/
def emit (s : State) (K : Cfg := cfg) : Out :=
  if s.mstate = .ready then
    match Memory.readBytes s.framebuf (sessionProfile s K).frameSize with
    | none => .fault (.readUnspecified .framebuf)
    | some F => .next ({ s with frames := counter (s.frames.toNat + 1) K, mstate := .emitted }.respond 0 F)
  else .next s.respondNotReady

/-- TRY_EMIT_FRAME (R268). -/
def tryEmitFrame (o : Operands) (s : State) (K : Cfg := cfg) : Out :=
  match modeRefusal .mux s with
  | some k => .next (s.raise k)
  | none =>
    if !operandsZero o then .next (s.raise .badOperand)
    else if lenOf o ≠ 0 then .next (s.raise .lengthMismatch)
    else match evaluate (leaveEmitted s) K with
      | .error (.raised k) => .next (s.raise k)
      | .error (.faulted f) => .fault f
      | .ok t => emit t K

/-- TRY_EMIT_FRAME (R268), of the default configuration. -/
def execTryEmitFrame (o : Operands) (s : State) : Out := tryEmitFrame o s

/-! ### Housekeeping (R272, R274) -/

/-- SET_RECDT (R272). -/
def execSetRecdt (o : Operands) (s : State) : Out :=
  match modeRefusal .mux s with
  | some k => .next (s.raise k)
  | none =>
    if !operandsZero o then .next (s.raise .badOperand)
    else if lenOf o ≠ 6 then .next (s.raise .lengthMismatch)
    else if !dateInRange (dateAt o.pay 0) then .next (s.raise .fieldRange)
    else .next ({ s with recdt := dateAt o.pay 0 }.respond 0 [])

/-- The 40 bytes of READ_STATUS (R274). -/
def statusBytes (s : State) : List Byte :=
  [byte (modeNumber s.mode), byte (muxStateNumber s.readMstate), flagByte s, byte s.profile.toNat,
    byte s.naudio.toNat, s.err, byte s.afreq.toNat, byte s.aquant.toNat]
    ++ leBytes 8 s.frames.toNat ++ leBytes 8 s.readAbytes.toNat
    ++ leBytes 4 s.fifo0.length ++ leBytes 4 s.fifo1.length
    ++ [byte s.aspect.toNat, 0] ++ dateBytes s.recdt

/-- READ_STATUS (R274): legal in every mode. -/
def execReadStatus (o : Operands) (s : State) : Out :=
  if !operandsZero o then .next (s.raise .badOperand)
  else if lenOf o ≠ 0 then .next (s.raise .lengthMismatch)
  else .next (s.respond 0 (statusBytes s))

end Sys2Proof.Machine
end

