-- ==== Sys2Proof/Machine/Demux.lean ====
section
/-! DEFINITION. The demux session and session end (45_demux_session): OPEN_DEMUX, FEED_FRAME, CLOSE, and
the hardware reset (R350). -/

namespace Sys2Proof.Machine

/-- OPEN_DEMUX (R291). -/
def execOpenDemux (o : Operands) (s : State) : Out :=
  match modeRefusal .closed s with
  | some k => .next (s.raise k)
  | none =>
    if !operandsZero o then .next (s.raise .badOperand)
    else if lenOf o ≠ 0 then .next (s.raise .lengthMismatch)
    else .next ({ s.cleared with mode := .demux }.respond 0 [])

/-- The audio part of a decoded frame (R292): no streams, code 0 and size 0 for a frame without audio. -/
def audioOf (r : Option AudioParams) : AudioParams := r.getD ⟨0, 0, 0, 0⟩

/-- The sample rate of a frequency code (R47); 0 where another configuration's `FREQ` lacks the code. DESIGN CHOICE,
unsafe (assumption log 25). -/
def rateOf (smp : Nat) (K : Cfg := cfg) : Nat := K.freq.getD smp 0

/-- `apts` (R296): computed without overflow, rounded down; 0 for a frame without audio. R247 (c) says that
the divisor is not 0; R7 does not test it (assumption log 25). -/
def audioPts (abytes : Nat) (ap : AudioParams) (K : Cfg := cfg) : Nat :=
  if ap.ns > 0 then abytes * K.ptsScale / (32 * rateOf ap.smp K) else 0

/-- The `DecodedFrame` record (R302). A value of another configuration that is wider than its field shows its low bits
(32, and 64 of `apts`). DESIGN CHOICE, unsafe (assumption log 25). -/
def decodedFrame (r : Nat) (q : Profile) (ap : AudioParams) (vpts apts : Nat) (F : Buffer) (K : Cfg := cfg) :
    List Byte :=
  [byte r, byte ap.ns, byte ap.smp, byte ap.qu]
    ++ leBytes 4 (if ap.ns > 0 then rateOf ap.smp K else 0)
    ++ [byte (if ap.ns > 0 then 2 else 0), 0, 0, 0]
    ++ leBytes 4 ap.size ++ leBytes 8 vpts ++ leBytes 8 apts
    ++ leBytes 4 q.rateNum ++ leBytes 4 q.rateDen ++ leBytes 4 (videoUnit q K)
    ++ extractVideo q F K ++ allPcm q F ap K

/-- The state a successful FEED_FRAME commits (R292, R297, R298). -/
def frameFed (s : State) (r : Nat) (ap : AudioParams) (K : Cfg := cfg) : State :=
  { s with
    profile := BitVec.ofNat 2 r
    pvalid := true
    naudio := BitVec.ofNat 2 ap.ns
    afreq := BitVec.ofNat 3 ap.smp
    aquant := BitVec.ofNat 3 ap.qu
    abytes := counter (s.abytes.toNat + ap.size) K
    frames := counter (s.frames.toNat + 1) K }

/-- FEED_FRAME once the mode and the operands are tested (R292, R294, R295). -/
def feedFrame (pay : List Byte) (s : State) (K : Cfg := cfg) : State :=
  if pay.length < K.profileBytes then s.raise .incompleteInput
  else match detectProfile pay K with
    | none => s.raiseFatal .profileUnrecognized
    | some r =>
      if s.pvalid = true ∧ r ≠ s.profile.toNat then s.raiseFatal .profileUnrecognized
      else match K.prof[r]? with
        | none => s.raiseFatal .profileUnrecognized
        | some q =>
          if pay.length < q.frameSize then s.raise .incompleteInput
          else
            let F := (pay.take q.frameSize).toArray
            match audioParams q F K with
            | .error k => s.raiseFatal k
            | .ok a =>
              let ap := audioOf a
              (frameFed s r ap K).respond (byte ap.ns)
                (decodedFrame r q ap s.frames.toNat (audioPts s.abytes.toNat ap K) F K)

/-- FEED_FRAME (R292). -/
def feed (o : Operands) (s : State) (K : Cfg := cfg) : Out :=
  match modeRefusal .demux s with
  | some k => .next (s.raise k)
  | none =>
    if !operandsZero o then .next (s.raise .badOperand)
    else .next (feedFrame o.pay s K)

/-- FEED_FRAME (R292), of the default configuration. -/
def execFeedFrame (o : Operands) (s : State) : Out := feed o s

/-- CLOSE (R299): legal in every mode; every piece of session state takes its reset value (R38). -/
def execClose (o : Operands) (s : State) : Out :=
  if !operandsZero o then .next (s.raise .badOperand)
  else if lenOf o ≠ 0 then .next (s.raise .lengthMismatch)
  else .next (s.cleared.respond 0 [])

/-- Hardware reset (R350, R351): the reset state, without a response, whether it arrives between two commands or
while one executes; what the host will send after it is still to come (assumption log 13). -/
def hardReset (s : State) : State := { State.reset with inbox := s.inbox }

end Sys2Proof.Machine
end

