-- ==== Sys2Proof/Machine/Endings.lean ====
section
/-! DEFINITION. The response classes (R102) and the codes (R320) as rows of the opcode table: how a command
ends. Every meaning of the other families ends with one of these operations. Assumption log 5. -/

namespace Sys2Proof.Machine

/-- A response of a class other than OK and NOT_READY: its code is also written to `ERR` (R334), its
result is empty (R100). -/
def endWith (c : RespClass) (k : Kind) (s : State) : Out :=
  .next { s with err := kindCode k, response := some ⟨c, kindCode k, 0, []⟩ }

/-- Raising a condition (R9, R320, R334). -/
def raiseCode (k : Kind) (s : State) : Out := .next (s.raise k)

/-- Class OK (R102): the command did what its rule says, with `RA` and `RPAY` its result. -/
def execClassOk (ra : Byte) (rpay : List Byte) (s : State) : Out := .next (s.respond ra rpay)

/-- Class NOT_READY (R102). -/
def execClassNotReady (s : State) : Out := .next s.respondNotReady

/-- Class INCOMPLETE (R102): its only code is IncompleteInput (R320). -/
def execClassIncomplete (s : State) : Out := endWith .incomplete .incompleteInput s

/-- Class REFUSED (R102), with one of the codes 0x10 to 0x17. -/
def execClassRefused (k : Kind) (s : State) : Out := endWith .refused k s

/-- Class ERROR (R102), with one of the source's fatal kinds. -/
def execClassError (k : Kind) (s : State) : Out := endWith .error k s

/-- Code 0x00 (R320): no condition; nothing is raised and `ERR` is not written (R334). -/
def execCodeNone (s : State) : Out := .next s

/-- Code 0x01 (R321). -/
def execCodeProfileUnrecognized (s : State) : Out := raiseCode .profileUnrecognized s

/-- Code 0x02 (R322). -/
def execCodeUnsupportedQuantization (s : State) : Out := raiseCode .unsupportedQuantization s

/-- Code 0x03 (R323). -/
def execCodeIncompleteInput (s : State) : Out := raiseCode .incompleteInput s

/-- Code 0x04 (R325). -/
def execCodeStreamTopologyInvalid (s : State) : Out := raiseCode .streamTopologyInvalid s

/-- Code 0x10 (R320). -/
def execCodeBadOpcode (s : State) : Out := raiseCode .badOpcode s

/-- Code 0x11 (R320). -/
def execCodeBadMode (s : State) : Out := raiseCode .badMode s

/-- Code 0x12 (R320). -/
def execCodeBadOperand (s : State) : Out := raiseCode .badOperand s

/-- Code 0x13 (R320). -/
def execCodeFieldRange (s : State) : Out := raiseCode .fieldRange s

/-- Code 0x14 (R324). -/
def execCodeLengthMismatch (s : State) : Out := raiseCode .lengthMismatch s

/-- Code 0x15 (R320). -/
def execCodePackMismatch (s : State) : Out := raiseCode .packMismatch s

/-- Code 0x16 (R320). -/
def execCodeFifoFull (s : State) : Out := raiseCode .fifoFull s

/-- Code 0x17 (R320). -/
def execCodeSessionFailed (s : State) : Out := raiseCode .sessionFailed s

end Sys2Proof.Machine
end

