-- ==== Sys2Proof/Machine/Dispatch.lean ====
section
/-! DEFINITION. One arm per instruction of the opcode table. -/

namespace Sys2Proof.Machine

def exec (i : Instr) (s : State) : Host.Outcome State Fault Refusal :=
  match i with
  | .openMux o => Sys2Proof.Machine.execOpenMux o s
  | .pushVideo o => Sys2Proof.Machine.execPushVideo o s
  | .pushAudio o => Sys2Proof.Machine.execPushAudio o s
  | .tryEmitFrame o => Sys2Proof.Machine.execTryEmitFrame o s
  | .openDemux o => Sys2Proof.Machine.execOpenDemux o s
  | .feedFrame o => Sys2Proof.Machine.execFeedFrame o s
  | .close o => Sys2Proof.Machine.execClose o s
  | .setRecdt o => Sys2Proof.Machine.execSetRecdt o s
  | .readStatus o => Sys2Proof.Machine.execReadStatus o s
  | .profileSelect o => Sys2Proof.Machine.execProfileSelect o s
  | .profileDetect o => Sys2Proof.Machine.execProfileDetect o s
  | .kindLookup o => Sys2Proof.Machine.execKindLookup o s
  | .packEnc o => Sys2Proof.Machine.execPackEnc o s
  | .packDec o => Sys2Proof.Machine.execPackDec o s
  | .tcDerive o => Sys2Proof.Machine.execTcDerive o s
  | .formatFrame o => Sys2Proof.Machine.execFormatFrame o s
  | .injectVideo o => Sys2Proof.Machine.execInjectVideo o s
  | .injectAudio o => Sys2Proof.Machine.execInjectAudio o s
  | .extractVideo o => Sys2Proof.Machine.execExtractVideo o s
  | .extractAudio o => Sys2Proof.Machine.execExtractAudio o s
  | .extractPack o => Sys2Proof.Machine.execExtractPack o s
  | .expand12 o => Sys2Proof.Machine.execExpand12 o s
  | .unpack12 o => Sys2Proof.Machine.execUnpack12 o s
  | .shufAddr o => Sys2Proof.Machine.execShufAddr o s
  | .kHdr f => Sys2Proof.Machine.execKHdr f s
  | .kTc f => Sys2Proof.Machine.execKTc f s
  | .kAs f => Sys2Proof.Machine.execKAs f s
  | .kAc f => Sys2Proof.Machine.execKAc f s
  | .kArd f => Sys2Proof.Machine.execKArd f s
  | .kArt f => Sys2Proof.Machine.execKArt f s
  | .kVs f => Sys2Proof.Machine.execKVs f s
  | .kVc f => Sys2Proof.Machine.execKVc f s
  | .kVrd f => Sys2Proof.Machine.execKVrd f s
  | .kVrt f => Sys2Proof.Machine.execKVrt f s
  | .nopack => Sys2Proof.Machine.execNopack s
  | .sectHeader f => Sys2Proof.Machine.execSectHeader f s
  | .sectSubcode f => Sys2Proof.Machine.execSectSubcode f s
  | .sectAux f => Sys2Proof.Machine.execSectAux f s
  | .sectAudio f => Sys2Proof.Machine.execSectAudio f s
  | .sectVideo f => Sys2Proof.Machine.execSectVideo f s
  | .subId f => Sys2Proof.Machine.execSubId f s
  | .classOk ra rpay => Sys2Proof.Machine.execClassOk ra rpay s
  | .classNotReady => Sys2Proof.Machine.execClassNotReady s
  | .classIncomplete => Sys2Proof.Machine.execClassIncomplete s
  | .classRefused k => Sys2Proof.Machine.execClassRefused k s
  | .classError k => Sys2Proof.Machine.execClassError k s
  | .codeNone => Sys2Proof.Machine.execCodeNone s
  | .codeProfileUnrecognized => Sys2Proof.Machine.execCodeProfileUnrecognized s
  | .codeUnsupportedQuantization => Sys2Proof.Machine.execCodeUnsupportedQuantization s
  | .codeIncompleteInput => Sys2Proof.Machine.execCodeIncompleteInput s
  | .codeStreamTopologyInvalid => Sys2Proof.Machine.execCodeStreamTopologyInvalid s
  | .codeBadOpcode => Sys2Proof.Machine.execCodeBadOpcode s
  | .codeBadMode => Sys2Proof.Machine.execCodeBadMode s
  | .codeBadOperand => Sys2Proof.Machine.execCodeBadOperand s
  | .codeFieldRange => Sys2Proof.Machine.execCodeFieldRange s
  | .codeLengthMismatch => Sys2Proof.Machine.execCodeLengthMismatch s
  | .codePackMismatch => Sys2Proof.Machine.execCodePackMismatch s
  | .codeFifoFull => Sys2Proof.Machine.execCodeFifoFull s
  | .codeSessionFailed => Sys2Proof.Machine.execCodeSessionFailed s

end Sys2Proof.Machine
end

