-- ==== Sys2Proof/Machine/Fetch.lean ====
section
/-! DEFINITION. Taking the host's next input and running it: the arrival of a transfer, a transfer that
holds no instruction, and one cycle of the machine (R10, R31, R32, R100). -/

namespace Sys2Proof.Machine

/-- The arrival of a transfer. A command packet writes the operand registers (R31); the other formats have
no operands. -/
def arrive (f : Format) (bs : List Byte) (s : State) : State :=
  match f with
  | .cmd =>
    { s with
      opc := payAt bs 0
      opA := payAt bs 1
      opB := BitVec.ofNat 16 (leNat (slice bs 2 2))
      len := BitVec.ofNat 32 (leNat (slice bs 4 4))
      pay := bs.drop 8 }
  | _ => s

/-- A transfer that holds no instruction: an opcode outside the map is BadOpcode (R115); a pack with an
unknown selector or a wrong length is what PACK_DEC makes of it (R114, R162); what is no whole packet or
record at all is refused by the model (assumption log 6). -/
def rejectTransfer (e : DecodeError) (s : State) : Out :=
  match e with
  | .badOpcode => .next (s.raise .badOpcode)
  | .badSelector => .next (s.raise .badOperand)
  | .packLength => .next (s.raise .lengthMismatch)
  | e => .refused (.malformedTransfer e)

/-- Runs one transfer: `run` executes the instruction it holds under the configuration `K`. -/
def runTransferBy (run : Instr → State → Out) (K : Cfg) (f : Format) (bs : List Byte) (s : State) : Out :=
  match decodeAs f bs K with
  | .ok i => run i (arrive f bs s)
  | .error e => rejectTransfer e (arrive f bs s)

/-- Runs one transfer under the default configuration. -/
def runTransfer (f : Format) (bs : List Byte) (s : State) : Out := runTransferBy exec cfg f bs s

/-- One cycle: the machine takes the first thing the host has sent; with nothing sent it is idle and keeps
all state (R342). A reset that arrives while a transfer executes discards it without a response: a command's
writes are kept only when it completes (R10), so none is, not even that of its operand registers (R351). -/
def cycleBy (run : Instr → State → Out) (K : Cfg) (s : State) : Out :=
  match s.inbox with
  | [] => .next s
  | .hardReset :: rest => .next (hardReset { s with inbox := rest })
  | .resetDuring _ _ :: rest => .next (hardReset { s with inbox := rest })
  | .transfer f bs :: rest => runTransferBy run K f bs { s with inbox := rest }

/-- One cycle of the machine of the default configuration. -/
def cycle (s : State) : Out := cycleBy exec cfg s

/-- The state in which a transfer is the next thing the machine takes. -/
def sent (s : State) (f : Format) (bs : List Byte) : State := { s with inbox := .transfer f bs :: s.inbox }

end Sys2Proof.Machine
end

