-- ==== Sys2Proof/Machine/Step.lean ====
section
/-! DEFINITION. One step of the machine, and the word a host places for the next step. -/

namespace Sys2Proof.Machine

/-- One step: one command and its response (R10, R32, R365). -/
def step (s : State) : Host.Outcome State Fault Refusal := cycle s

/-- The state in which the next step takes the transfer an opcode-table word stands for: it is put before
whatever the host has sent (assumption log 2). -/
def State.withFetchWord (s : State) (nbits w : Nat) : State :=
  sent s (tableTransfer nbits w).1 (tableTransfer nbits w).2

end Sys2Proof.Machine
end

