-- ==== Sys2Proof/Machine/Configured.lean ====
section
/-! DEFINITION. The machine of any configuration (R6, R7, R354): the dispatch and the step that take `CFG` as an
argument, and the building of a machine, which refuses a configuration that is not well-formed. The meanings are
those of `exec`, which is this dispatch at the default configuration. -/

namespace Sys2Proof.Machine

/-- The meaning of an instruction under the configuration `K` (R6: "The model takes one configuration record
`CFG`"). -/
def execWith (K : Cfg) (i : Instr) (s : State) : Out :=
  match i with
  | .openMux o => openMux o s K
  | .pushVideo o => pushVideo o s K
  | .pushAudio o => pushAudio o s K
  | .tryEmitFrame o => tryEmitFrame o s K
  | .openDemux o => execOpenDemux o s
  | .feedFrame o => feed o s K
  | .close o => execClose o s
  | .setRecdt o => execSetRecdt o s
  | .readStatus o => execReadStatus o s
  | .profileSelect o => pureCommand (profileSelectReply o K) s
  | .profileDetect o => pureCommand (profileDetectReply o K) s
  | .kindLookup o => pureCommand (kindLookupReply o K) s
  | .packEnc o => pureCommand (packEncReply o K) s
  | .packDec o => pureCommand (packDecReply o K) s
  | .tcDerive o => pureCommand (tcDeriveReply o K) s
  | .formatFrame o => pureCommand (formatFrameReply o K) s
  | .injectVideo o => pureCommand (injectVideoReply o K) s
  | .injectAudio o => pureCommand (injectAudioReply o K) s
  | .extractVideo o => pureCommand (extractVideoReply o K) s
  | .extractAudio o => pureCommand (extractAudioReply o K) s
  | .extractPack o => pureCommand (extractPackReply o K) s
  | .expand12 o => execExpand12 o s
  | .unpack12 o => execUnpack12 o s
  | .shufAddr o => pureCommand (shufAddrReply o K) s
  | .kHdr f => presentPack .hdr f.dsf (hdrList f) s K
  | .kTc f => presentPack .tc false (tcList f) s K
  | .kAs f => presentPack .audioSource false (audioSourceList f) s K
  | .kAc f => presentPack .audioControl false (audioControlList f) s K
  | .kArd f => presentPack .audioRecDate false (recDateList f) s K
  | .kArt f => presentPack .audioRecTime false (recTimeList f) s K
  | .kVs f => presentPack .videoSource false (videoSourceList f) s K
  | .kVc f => presentPack .videoControl false (videoControlList f) s K
  | .kVrd f => presentPack .videoRecDate false (recDateList f) s K
  | .kVrt f => presentPack .videoRecTime false (recTimeList f) s K
  | .nopack => presentPack .nopack false [] s K
  | .sectHeader f => execSectHeader f s
  | .sectSubcode f => execSectSubcode f s
  | .sectAux f => execSectAux f s
  | .sectAudio f => execSectAudio f s
  | .sectVideo f => execSectVideo f s
  | .subId f => execSubId f s
  | .classOk ra rpay => execClassOk ra rpay s
  | .classNotReady => execClassNotReady s
  | .classIncomplete => execClassIncomplete s
  | .classRefused k => execClassRefused k s
  | .classError k => execClassError k s
  | .codeNone => execCodeNone s
  | .codeProfileUnrecognized => execCodeProfileUnrecognized s
  | .codeUnsupportedQuantization => execCodeUnsupportedQuantization s
  | .codeIncompleteInput => execCodeIncompleteInput s
  | .codeStreamTopologyInvalid => execCodeStreamTopologyInvalid s
  | .codeBadOpcode => execCodeBadOpcode s
  | .codeBadMode => execCodeBadMode s
  | .codeBadOperand => execCodeBadOperand s
  | .codeFieldRange => execCodeFieldRange s
  | .codeLengthMismatch => execCodeLengthMismatch s
  | .codePackMismatch => execCodePackMismatch s
  | .codeFifoFull => execCodeFifoFull s
  | .codeSessionFailed => execCodeSessionFailed s

/-- One step under the configuration `K`. -/
def stepWith (K : Cfg) (s : State) : Out := cycleBy (execWith K) K s

/-- Building the machine of a configuration: the test of R7 is made once, here (R354), and a configuration that is
not well-formed is refused (R7, 93_implementation_defined U13). The reset state does not depend on the
configuration (R37, R38). -/
def construct (K : Cfg) : Except ConfigRefusal Host.Core :=
  if K.check then
    .ok { State := State, Fault := Fault, Refusal := Refusal, step := stepWith K, reset := State.reset }
  else .error .illFormed

end Sys2Proof.Machine
end

