-- ==== Sys2Proof/Safety.lean ====
section
/-! DEFINITION. The terms the statements use: the invariant every run from reset keeps, the timecode
counting rule as the source words it, and what the spec's prose says about modes and responses. -/

namespace Sys2Proof.Safety

open Sys2Proof.Machine

/-! ### The invariant -/

/-- What holds of the state between commands. Each field cites the rule it formalises. -/
structure StateInv (s : State) : Prop where
  /-- the byte stores are canonical -/
  vbuf_wf : Memory.wf s.vbuf
  framebuf_wf : Memory.wf s.framebuf
  /-- R24: `MSTATE` "reads 0 otherwise" -/
  mstate_outside_mux : s.mode ≠ .mux → s.mstate = .accumulating
  /-- R25: `ABYTES` "reads 0 outside DEMUX mode"; a failed demux session keeps its registers (R330) -/
  abytes_outside_demux : s.mode = .closed ∨ s.mode = .mux → s.abytes = 0
  /-- R22: OPEN_MUX selects the profile; no session, no profile -/
  pvalid_in_mux : s.mode = .mux → s.pvalid = true
  pvalid_closed : s.mode = .closed → s.pvalid = false
  /-- R26, R262: 48 kHz, 16-bit linear, at most one stream per DIF channel -/
  mux_audio : s.mode = .mux →
    s.afreq = 0 ∧ s.aquant = 0 ∧ s.naudio.toNat ≤ (sessionProfile s).C
  /-- R26: values 0, 1, 2 -/
  naudio_range : s.naudio.toNat ≤ 2
  /-- R116: only codes with a meaning are kept -/
  audio_codes : s.afreq.toNat ≤ 2 ∧ s.aquant.toNat ≤ 1
  /-- R30, R33: a pending video unit is a whole unit of the session's profile -/
  vpend_unit : s.vpend = true →
    s.mode = .mux ∧ ∃ V : List Byte, V.length = videoUnit (sessionProfile s) ∧ s.vbuf = Memory.ofBytes V
  /-- R34: in READY, FRAMEBUF holds a whole frame -/
  ready_frame : s.mstate = .ready →
    ∃ F : List Byte, F.length = (sessionProfile s).frameSize ∧ s.framebuf = Memory.ofBytes F
  /-- R35: capacity, and the FIFOs that exist -/
  fifo_cap : s.fifo0.length ≤ cfg.fifoCap ∧ s.fifo1.length ≤ cfg.fifoCap
  fifo0_unused : s.mode ≠ .mux ∨ s.naudio.toNat = 0 → s.fifo0 = []
  fifo1_unused : s.mode ≠ .mux ∨ s.naudio.toNat ≤ 1 → s.fifo1 = []
  /-- R28: the legal ranges of the record date -/
  date_range : dateInRange s.recdt = true

/-! ### The timecode counting rule (R167) -/

/-- The label after a label, in the source's words: count upward, `f < ltc`, `s < 60`, `m < 60`, hours
modulo 24; with drop-frame, "frame numbers 0 and 1 are skipped at the start of every minute boundary
except minutes evenly divisible by 10". -/
def nextLabel (p : Profile) (l : Label) : Label :=
  if l.f + 1 < p.ltc then { l with f := l.f + 1 }
  else if l.s + 1 < 60 then { l with s := l.s + 1, f := 0 }
  else
    let m := (l.m + 1) % 60
    let h := if l.m + 1 < 60 then l.h else (l.h + 1) % 24
    ⟨h, m, 0, if p.drop ∧ m % 10 ≠ 0 then 2 else 0⟩

/-- The `n`-th label of the enumeration (R167: `n = 0` gives 00:00:00:00). -/
def countLabel (p : Profile) : Nat → Label
  | 0 => ⟨0, 0, 0, 0⟩
  | n + 1 => nextLabel p (countLabel p n)

/-! ### Responses and modes -/

/-- The state after class OK with `RA` and `RPAY`: only the response packet is new (R102, R334). -/
abbrev okState (s : State) (ra : Byte) (rpay : List Byte) : State :=
  { s with response := some ⟨.ok, 0, ra, rpay⟩ }

/-- The state after a response of class INCOMPLETE, REFUSED or ERROR: the response packet and `ERR`
(R328, R334). -/
abbrev endedState (s : State) (c : RespClass) (code : Byte) : State :=
  { s with err := code, response := some ⟨c, code, 0, []⟩ }

/-- A response of class INCOMPLETE, REFUSED or ERROR (R328). -/
def reportsCondition (r : Response) : Prop := r.cls = .incomplete ∨ r.cls = .refused ∨ r.cls = .error

/-- The pure commands of R101 and R103. -/
def isPure : Instr → Bool
  | .profileSelect _ | .profileDetect _ | .kindLookup _ | .packEnc _ | .packDec _ | .tcDerive _
  | .formatFrame _ | .injectVideo _ | .injectAudio _ | .extractVideo _ | .extractAudio _
  | .extractPack _ | .expand12 _ | .unpack12 _ | .shufAddr _ => true
  | _ => false

/-- The modes in which a command is executed: the table of R336. -/
def legalModes : Instr → List Mode
  | .openMux _ | .openDemux _ => [.closed]
  | .pushVideo _ | .pushAudio _ | .tryEmitFrame _ | .setRecdt _ => [.mux]
  | .feedFrame _ => [.demux]
  | _ => [.closed, .mux, .demux, .failed]

/-! ### Frames -/

/-- Byte `i` of the pack the assembler writes for a kind (R178). -/
def packByte (k : PackKind) (p : Profile) (x : Ctx) (i : Nat) : Byte := payAt (packBytes k p x) i

/-- What byte `j` of block `b` of segment `s` of channel `c` holds in a skeleton: the block map of R64 with
the block layouts of R66, R67, R68, R70 and R71. -/
def skeletonByte (p : Profile) (x : Ctx) (c s b j : Nat) : Byte :=
  if b = 0 then
    if j < 3 then payAt (blkId .header c s 0) j else if j < 8 then packByte .hdr p x (j - 3) else 0xFF
  else if b < 3 then
    if j < 3 then payAt (blkId .subcode c s (b - 1)) j
    else if j < 51 then
      if (j - 3) % 8 < 3 then payAt (subIdOf p s ((j - 3) / 8)) ((j - 3) % 8)
      else packByte (subKind s ((j - 3) / 8)) p x ((j - 3) % 8 - 3)
    else 0xFF
  else if b < 6 then
    if j < 3 then payAt (blkId .aux c s (b - 3)) j
    else if j < 78 then packByte (auxKind s ((j - 3) / 5)) p x ((j - 3) % 5)
    else 0xFF
  else if (b - 6) % 16 = 0 then
    if j < 3 then payAt (blkId .audio c s ((b - 6) / 16)) j
    else if j < 8 then packByte (if x.naudio > 0 then audKind s ((b - 6) / 16) else .nopack) p x (j - 3)
    else 0xFF
  else
    if j < 3 then payAt (blkId .video c s (15 * ((b - 6) / 16) + ((b - 6) % 16 - 1))) j else 0xFF

/-- A slot of a profile: segment, audio block and slot in range (R230). -/
def slotInRange (p : Profile) (s g k : Nat) : Prop := s < p.S ∧ g < 9 ∧ k < 36

/-- The frame that stands in FRAMEBUF after assembly, from its skeleton `F0` and its video unit `V`: video,
then the first `Req` bytes of each FIFO into its DIF channel (R267). -/
def frameFrom (s : State) (F0 : Buffer) (V : List Byte) : List Byte :=
  ((List.range s.naudio.toNat).foldl
    (fun F i => shuffle16 (sessionProfile s) F i
      ((fifoOf s i).take (req (sessionProfile s) s.frames.toNat)).toArray
      (req (sessionProfile s) s.frames.toNat))
    (injectVideo (sessionProfile s) F0 V)).toList

/-! ### The mux state machine (R261, R266, R269) -/

/-- The audio part of the readiness condition (R266) once `extra i` more bytes are in `FIFO[i]`. -/
def audioReady (s : State) (extra : Nat → Nat) : Prop :=
  ∀ i, i < s.naudio.toNat → req (sessionProfile s) s.frames.toNat ≤ (fifoOf s i).length + extra i

/-- The state after the inputs of a frame have been taken: `Req` bytes of each FIFO of the session and the
pending video unit (R266, R267). What VBUF lists then is left open. -/
def inputsTaken (s : State) (vb : Memory) : State :=
  { s with
    vpend := false
    vbuf := vb
    fifo0 := if 0 < s.naudio.toNat then s.fifo0.drop (req (sessionProfile s) s.frames.toNat) else s.fifo0
    fifo1 := if 1 < s.naudio.toNat then s.fifo1.drop (req (sessionProfile s) s.frames.toNat) else s.fifo1 }

/-- PUSH_AUDIO of each chunk in turn, until one is not answered by a next state. -/
def pushChunks (a : Byte) : List (List Byte) → State → Out
  | [], s => .next s
  | x :: xs, s =>
    match exec (.pushAudio ⟨a, 0, x⟩) s with
    | .next t => pushChunks a xs t
    | .fault f => .fault f
    | .refused r => .refused r

/-! ### PCM -/

/-- Whether every 16-bit word of a PCM byte string, low byte first, differs from `MUTE16` (R235). -/
def noMuteWord (P : List Byte) : Prop :=
  ∀ w, 2 * w + 1 < P.length → ¬ (P.getD (2 * w) 0 = 0x00 ∧ P.getD (2 * w + 1) 0 = 0x80)

/-- Whether `Q` is the PCM `P` as decoding gives it back (R235): word by word the same, but that a word equal to
`MUTE16` is zero. -/
def sameButMuted (P Q : List Byte) : Prop :=
  Q.length = P.length ∧
  ∀ w, 2 * w + 1 < P.length →
    if P.getD (2 * w) 0 = 0x00 ∧ P.getD (2 * w + 1) 0 = 0x80 then Q.getD (2 * w) 0 = 0 ∧ Q.getD (2 * w + 1) 0 = 0
    else Q.getD (2 * w) 0 = P.getD (2 * w) 0 ∧ Q.getD (2 * w + 1) 0 = P.getD (2 * w + 1) 0

end Sys2Proof.Safety
end

