-- ==== Sys2Proof/Certificates/Slice0/Obligations.lean ====
section
/-! DEFINITION. The statements for the provers: what the commands of DVMX do, taken from the numbered rules of
spec/. A statement gives the whole next state of an instruction wherever it can, so that it is the
instruction's result, its frame and its completion at once. -/

open Sys2Proof Sys2Proof.Machine Sys2Proof.Safety

/-! ### Encodings and the step -/

/-- Decoding the encoding of a well-formed instruction gives the instruction back, for every instruction and
every operand value its encoding admits (R100, R101, R102, R106, R108, R112, R160, R320). -/
def Obligations.DecodeOfEncode : Prop :=
  ∀ i : Instr, i.wellFormed = true → decodeAs (formatOf i) (encode i) = .ok i

/-- Words of the opcode table and packets written out in spec/95_test_vectors.md and in the examples of the
rules decode to the instructions they stand for. -/
def Obligations.WrittenWordsDecode : Prop :=
  decodeTableWord 8 0x01 = some (.openMux ⟨0, 0, []⟩) ∧
  decodeTableWord 8 0x42 = some (.shufAddr ⟨0, 0, []⟩) ∧
  decodeTableWord 40 0x134280_81C0 = some (.kTc ⟨0, 1, 0, 2, 1, 0, 0, 1, 0, 1, 1, 1, 0, 0⟩) ∧
  decodeTableWord 40 0x613FCA_FCFF = some (.kVc ⟨0, 2, 1, 1, 1, 1⟩) ∧
  decodeTableWord 24 0x760703 = some (.sectAudio ⟨0, 0, 3⟩) ∧
  decodeTableWord 24 0x969786 = some (.sectVideo ⟨9, 0, 134⟩) ∧
  decodeTableWord 24 0x0FF2FF = some (.subId ⟨false, 2⟩) ∧
  decodeAs .cmd [0x10, 0, 0, 0, 6, 0, 0, 0, 0x01, 0x0A, 0xC0, 0xD4, 0x01, 0x00]
    = .ok (.profileSelect ⟨0, 0, [0x01, 0x0A, 0xC0, 0xD4, 0x01, 0x00]⟩) ∧
  decodeAs .resp [0x02, 0x03, 0, 0, 0, 0, 0, 0] = .ok .classIncomplete ∧
  decodeAs .code [0x14] = .ok .codeLengthMismatch

/-- The bit layouts of the packs (R109 to R112): the encoder writes the fields and every constant bit at its
place, and the decoder reads the fields whatever stands in the places of the constant bits. -/
def Obligations.PackBitLayouts : Prop :=
  let u := fun (w v : Nat) => BitVec.ofNat w v
  (∀ (f : HdrFields) (c1 : BitVec 5) (c2 c3 c4 : BitVec 4), packFits .hdr (hdrList f) = true →
    decodePackInstr [if f.dsf then 0xBF else 0x3F, c1 ++ u 3 f.apt, u 1 f.tf1 ++ c2 ++ u 3 f.ap1,
      u 1 f.tf2 ++ c3 ++ u 3 f.ap2, u 1 f.tf3 ++ c4 ++ u 3 f.ap3] = .ok (.kHdr f) ∧
    encode (.kHdr f) = [if f.dsf then 0xBF else 0x3F, 0b11111#5 ++ u 3 f.apt, u 1 f.tf1 ++ 0b1111#4 ++ u 3 f.ap1,
      u 1 f.tf2 ++ 0b1111#4 ++ u 3 f.ap2, u 1 f.tf3 ++ 0b1111#4 ++ u 3 f.ap3]) ∧
  (∀ f : TcFields, packFits .tc (tcList f) = true →
    let bs := [0x13, u 1 f.cf ++ u 1 f.df ++ u 2 f.ft ++ u 4 f.fu, u 1 f.pc ++ u 3 f.st ++ u 4 f.su,
      u 1 f.bgf0 ++ u 3 f.mt ++ u 4 f.mu, u 1 f.bgf2 ++ u 1 f.bgf1 ++ u 2 f.ht ++ u 4 f.hu]
    decodePackInstr bs = .ok (.kTc f) ∧ encode (.kTc f) = bs) ∧
  (∀ (f : AudioSourceFields) (c1 c3 : BitVec 1), packFits .audioSource (audioSourceList f) = true →
    decodePackInstr [0x50, u 1 f.lf ++ c1 ++ u 6 f.afsize, u 1 f.sm ++ u 2 f.chn ++ u 1 f.pa ++ u 4 f.amode,
      c3 ++ u 1 f.ml ++ u 1 f.f5060 ++ u 5 f.stype, u 1 f.ef ++ u 1 f.tc ++ u 3 f.smp ++ u 3 f.qu]
      = .ok (.kAs f) ∧
    encode (.kAs f) = [0x50, u 1 f.lf ++ 1#1 ++ u 6 f.afsize, u 1 f.sm ++ u 2 f.chn ++ u 1 f.pa ++ u 4 f.amode,
      1#1 ++ u 1 f.ml ++ u 1 f.f5060 ++ u 5 f.stype, u 1 f.ef ++ u 1 f.tc ++ u 3 f.smp ++ u 3 f.qu]) ∧
  (∀ (f : AudioControlFields) (c4 : BitVec 1), packFits .audioControl (audioControlList f) = true →
    decodePackInstr [0x51, u 2 f.cgms ++ u 2 f.isr ++ u 2 f.cmp ++ u 2 f.ss,
      u 1 f.recst ++ u 1 f.recend ++ u 3 f.recmode ++ u 3 f.insch, u 1 f.drf ++ u 7 f.speed,
      c4 ++ u 7 f.genre] = .ok (.kAc f) ∧
    encode (.kAc f) = [0x51, u 2 f.cgms ++ u 2 f.isr ++ u 2 f.cmp ++ u 2 f.ss,
      u 1 f.recst ++ u 1 f.recend ++ u 3 f.recmode ++ u 3 f.insch, u 1 f.drf ++ u 7 f.speed,
      1#1 ++ u 7 f.genre]) ∧
  (∀ (f : RecDateFields) (c2 : BitVec 2), packFits .audioRecDate (recDateList f) = true →
    let tail := fun c : BitVec 2 => [u 8 f.tz, c ++ u 2 f.dt ++ u 4 f.du, u 3 f.week ++ u 1 f.mt ++ u 4 f.mu,
      u 4 f.yt ++ u 4 f.yu]
    decodePackInstr (0x52 :: tail c2) = .ok (.kArd f) ∧ encode (.kArd f) = 0x52 :: tail 0b11#2 ∧
    decodePackInstr (0x62 :: tail c2) = .ok (.kVrd f) ∧ encode (.kVrd f) = 0x62 :: tail 0b11#2) ∧
  (∀ (f : RecTimeFields) (c1 c4 : BitVec 2) (c2 c3 : BitVec 1), packFits .audioRecTime (recTimeList f) = true →
    let tail := fun (c1 c4 : BitVec 2) (c2 c3 : BitVec 1) => [c1 ++ u 2 f.ft ++ u 4 f.fu, c2 ++ u 3 f.st ++ u 4 f.su,
      c3 ++ u 3 f.mt ++ u 4 f.mu, c4 ++ u 2 f.ht ++ u 4 f.hu]
    decodePackInstr (0x53 :: tail c1 c4 c2 c3) = .ok (.kArt f) ∧
    encode (.kArt f) = 0x53 :: tail 0b11#2 0b11#2 1#1 1#1 ∧
    decodePackInstr (0x63 :: tail c1 c4 c2 c3) = .ok (.kVrt f) ∧
    encode (.kVrt f) = 0x63 :: tail 0b11#2 0b11#2 1#1 1#1) ∧
  (∀ (f : VideoSourceFields) (c2 : BitVec 4) (c3 : BitVec 2), packFits .videoSource (videoSourceList f) = true →
    decodePackInstr [0x60, u 8 f.tvch, u 1 f.bw ++ u 1 f.en ++ u 2 f.clf ++ c2, c3 ++ u 1 f.f5060 ++ u 5 f.stype,
      u 8 f.visc] = .ok (.kVs f) ∧
    encode (.kVs f) = [0x60, u 8 f.tvch, u 1 f.bw ++ u 1 f.en ++ u 2 f.clf ++ 0b1111#4,
      0b11#2 ++ u 1 f.f5060 ++ u 5 f.stype, u 8 f.visc]) ∧
  (∀ (f : VideoControlFields) (c1 : BitVec 6) (c2 : BitVec 5) (c3 : BitVec 4) (c4 : BitVec 8),
    packFits .videoControl (videoControlList f) = true →
    decodePackInstr [0x61, u 2 f.cgms ++ c1, c2 ++ u 3 f.aspect, u 1 f.ff ++ u 1 f.fs ++ u 1 f.fc ++ u 1 f.il ++ c3,
      c4] = .ok (.kVc f) ∧
    encode (.kVc f) = [0x61, u 2 f.cgms ++ 0b111111#6, 0b11001#5 ++ u 3 f.aspect,
      u 1 f.ff ++ u 1 f.fs ++ u 1 f.fc ++ u 1 f.il ++ 0b1100#4, 0xFF]) ∧
  (∀ c1 c2 c3 c4 : Byte, decodePackInstr [0xFF, c1, c2, c3, c4] = .ok .nopack ∧
    encode .nopack = [0xFF, 0xFF, 0xFF, 0xFF, 0xFF])

/-- The block id and the sub-record id, field by field (R106, R108), with the section bytes, the ranges of the block
number and of the sub-record number, and the sub-record id of a segment. -/
def Obligations.BlockAndSubRecordIds : Prop :=
  (∀ f : BlkIdFields,
    let tail : List Byte := [f.seg ++ f.chan ++ 0b111#3, f.num]
    encode (.sectHeader f) = 0x1F :: tail ∧ encode (.sectSubcode f) = 0x3F :: tail ∧
    encode (.sectAux f) = 0x56 :: tail ∧ encode (.sectAudio f) = 0x76 :: tail ∧
    encode (.sectVideo f) = 0x96 :: tail ∧
    ((Instr.sectHeader f).wellFormed = true ↔ f.seg.toNat ≤ 11 ∧ f.num.toNat = 0) ∧
    ((Instr.sectSubcode f).wellFormed = true ↔ f.seg.toNat ≤ 11 ∧ f.num.toNat ≤ 1) ∧
    ((Instr.sectAux f).wellFormed = true ↔ f.seg.toNat ≤ 11 ∧ f.num.toNat ≤ 2) ∧
    ((Instr.sectAudio f).wellFormed = true ↔ f.seg.toNat ≤ 11 ∧ f.num.toNat ≤ 8) ∧
    ((Instr.sectVideo f).wellFormed = true ↔ f.seg.toNat ≤ 11 ∧ f.num.toNat ≤ 134)) ∧
  (∀ f : SubIdFields,
    encode (.subId f) = [(if f.fr then 1#1 else 0#1) ++ 0b000#3 ++ 0b1111#4, 0b1111#4 ++ f.syb, 0xFF] ∧
    ((Instr.subId f).wellFormed = true ↔ f.syb.toNat ≤ 5)) ∧
  (∀ (p : Profile) (s k : Nat), k ≤ 5 →
    subIdOf p s k = [(if s < p.S / 2 then 1#1 else 0#1) ++ 0b000#3 ++ 0b1111#4, 0b1111#4 ++ BitVec.ofNat 4 k, 0xFF])

/-- A step takes what the host has sent first. A transfer that holds an instruction runs it, with the operand
registers written by a command packet (R31) and untouched by the other formats; with nothing sent the machine
is idle and keeps all state (R342). How the host's input stands in the state is the model's choice (assumption
logs 1 and 3). -/
def Obligations.StepRunsTheDecodedInstruction : Prop :=
  ∀ (s : State) (f : Format) (bs : List Byte) (rest : List HostEvent) (i : Instr),
    (s.inbox = .transfer f bs :: rest → decodeAs f bs = .ok i →
      step s = exec i (if f = .cmd then
        { s with
          inbox := rest
          opc := payAt bs 0
          opA := payAt bs 1
          opB := BitVec.ofNat 16 (leNat (slice bs 2 2))
          len := BitVec.ofNat 32 (leNat (slice bs 4 4))
          pay := bs.drop 8 }
        else { s with inbox := rest })) ∧
    (s.inbox = [] → step s = .next s)

/-- A command packet whose opcode is none of the 24 of R101 is refused with BadOpcode, and changes nothing
but `ERR` (R115) and the operand registers its arrival writes (R31). -/
def Obligations.UnknownOpcodeRefused : Prop :=
  ∀ (s : State) (rest : List HostEvent) (opc a : Byte) (b : Half) (pay : List Byte),
    pay.length < 2 ^ 32 →
    opc.toNat ∉ [0x01, 0x02, 0x03, 0x04, 0x05, 0x06, 0x07, 0x08, 0x09, 0x10, 0x11, 0x12, 0x20, 0x21, 0x22,
      0x30, 0x31, 0x32, 0x33, 0x34, 0x35, 0x40, 0x41, 0x42] →
    s.inbox = .transfer .cmd ([opc, a] ++ leBytes 2 b.toNat ++ leBytes 4 pay.length ++ pay) :: rest →
    step s = .next (endedState
      { s with
        inbox := rest
        opc := opc
        opA := a
        opB := b
        len := BitVec.ofNat 32 pay.length
        pay := pay } .refused 0x10)

/-- Hardware reset puts every piece of state that has a value in the column "reset and CLOSE" of R38 at that value
(R350). One that arrives while a command executes does the same, whatever the command, which is discarded without a
response: the state afterwards "is the reset state, not a mixture" (R351). Where a reset and a response stand in the
state is the model's choice (assumption logs 8 and 13). -/
def Obligations.HardwareResetValues : Prop :=
  ∀ (s : State) (rest : List HostEvent),
    (s.inbox = .hardReset :: rest ∨ ∃ f bs, s.inbox = .resetDuring f bs :: rest) →
    ∃ t, step s = .next t ∧ t.response = none ∧ t.mode = .closed ∧ t.profile = 0 ∧ t.pvalid = false ∧
      t.frames = 0 ∧
      t.mstate = .accumulating ∧ t.abytes = 0 ∧ t.naudio = 0 ∧ t.afreq = 0 ∧ t.aquant = 0 ∧ t.aspect = 0 ∧
      t.recdt = ⟨70, 1, 1, 0, 0, 0⟩ ∧ t.err = 0 ∧ t.vpend = false ∧ t.vovr = false ∧ t.aovf = false ∧
      t.fifo0 = [] ∧ t.fifo1 = []

/-! ### Rows that are no command: packs, ids, response classes, codes -/

/-- A pack presented by itself is answered as PACK_DEC answers its five bytes: `RA` its selector, one result
byte a field (R162); a field that does not fit its width is FieldRange (R111). That a pack can be presented by
itself is the model's choice (assumption log 3). Covers K_HDR, K_TC, K_AS, K_AC, K_ARD, K_ART, K_VS, K_VC,
K_VRD, K_VRT and NOPACK. -/
def Obligations.PresentedPacks : Prop :=
  ∀ s : State,
    (∀ f, exec (.kHdr f) s = .next (if packFits .hdr (hdrList f) then
      okState s (if f.dsf then 0xBF else 0x3F) ((hdrList f).map byte) else endedState s .refused 0x13)) ∧
    (∀ f, exec (.kTc f) s = .next (if packFits .tc (tcList f) then
      okState s 0x13 ((tcList f).map byte) else endedState s .refused 0x13)) ∧
    (∀ f, exec (.kAs f) s = .next (if packFits .audioSource (audioSourceList f) then
      okState s 0x50 ((audioSourceList f).map byte) else endedState s .refused 0x13)) ∧
    (∀ f, exec (.kAc f) s = .next (if packFits .audioControl (audioControlList f) then
      okState s 0x51 ((audioControlList f).map byte) else endedState s .refused 0x13)) ∧
    (∀ f, exec (.kArd f) s = .next (if packFits .audioRecDate (recDateList f) then
      okState s 0x52 ((recDateList f).map byte) else endedState s .refused 0x13)) ∧
    (∀ f, exec (.kArt f) s = .next (if packFits .audioRecTime (recTimeList f) then
      okState s 0x53 ((recTimeList f).map byte) else endedState s .refused 0x13)) ∧
    (∀ f, exec (.kVs f) s = .next (if packFits .videoSource (videoSourceList f) then
      okState s 0x60 ((videoSourceList f).map byte) else endedState s .refused 0x13)) ∧
    (∀ f, exec (.kVc f) s = .next (if packFits .videoControl (videoControlList f) then
      okState s 0x61 ((videoControlList f).map byte) else endedState s .refused 0x13)) ∧
    (∀ f, exec (.kVrd f) s = .next (if packFits .videoRecDate (recDateList f) then
      okState s 0x62 ((recDateList f).map byte) else endedState s .refused 0x13)) ∧
    (∀ f, exec (.kVrt f) s = .next (if packFits .videoRecTime (recTimeList f) then
      okState s 0x63 ((recTimeList f).map byte) else endedState s .refused 0x13)) ∧
    exec .nopack s = .next (okState s 0xFF [])

/-- A block id or a sub-record id is not examined by the demux side (R292 (d), R210): presented by itself it
changes nothing. That it can be presented by itself is the model's choice (assumption log 4). Covers
SECT_HEADER, SECT_SUBCODE, SECT_AUX, SECT_AUDIO, SECT_VIDEO and SUBID. -/
def Obligations.IdsAreNotExamined : Prop :=
  ∀ s : State,
    (∀ f, exec (.sectHeader f) s = .next s) ∧ (∀ f, exec (.sectSubcode f) s = .next s) ∧
    (∀ f, exec (.sectAux f) s = .next s) ∧ (∀ f, exec (.sectAudio f) s = .next s) ∧
    (∀ f, exec (.sectVideo f) s = .next s) ∧ (∀ f, exec (.subId f) s = .next s)

/-- How a command ends: each response class (R100, R102) with its code, result and, for the classes other than OK
and NOT_READY, `ERR` (R334), and each code of the table of R320 with its class and number; nothing else changes. That
a class row or a code row has a meaning by itself is the model's choice (assumption log 5). -/
def Obligations.ClassAndCodeEndings : Prop :=
  ∀ s : State,
    (∀ ra rpay, exec (.classOk ra rpay) s = .next { s with response := some ⟨.ok, 0, ra, rpay⟩ }) ∧
    exec .classNotReady s = .next { s with response := some ⟨.notReady, 0, 0, []⟩ } ∧
    exec .classIncomplete s = .next { s with err := 0x03, response := some ⟨.incomplete, 0x03, 0, []⟩ } ∧
    (∀ k, exec (.classRefused k) s
      = .next { s with err := kindCode k, response := some ⟨.refused, kindCode k, 0, []⟩ }) ∧
    (∀ k, exec (.classError k) s
      = .next { s with err := kindCode k, response := some ⟨.error, kindCode k, 0, []⟩ }) ∧
    exec .codeNone s = .next s ∧
    exec .codeProfileUnrecognized s = .next (endedState s .error 0x01) ∧
    exec .codeUnsupportedQuantization s = .next (endedState s .error 0x02) ∧
    exec .codeIncompleteInput s = .next (endedState s .incomplete 0x03) ∧
    exec .codeStreamTopologyInvalid s = .next (endedState s .error 0x04) ∧
    exec .codeBadOpcode s = .next (endedState s .refused 0x10) ∧
    exec .codeBadMode s = .next (endedState s .refused 0x11) ∧
    exec .codeBadOperand s = .next (endedState s .refused 0x12) ∧
    exec .codeFieldRange s = .next (endedState s .refused 0x13) ∧
    exec .codeLengthMismatch s = .next (endedState s .refused 0x14) ∧
    exec .codePackMismatch s = .next (endedState s .refused 0x15) ∧
    exec .codeFifoFull s = .next (endedState s .refused 0x16) ∧
    exec .codeSessionFailed s = .next (endedState s .refused 0x17)

/-! ### Responses and modes, over all commands -/

/-- `ERR` (R334): every command ends with a response; one of class INCOMPLETE, REFUSED or ERROR leaves its code
in `ERR`, one of class OK or NOT_READY leaves `ERR` as it was, but for OPEN_MUX, OPEN_DEMUX and CLOSE, which
clear it when they succeed; a packet with an unknown opcode leaves its code too; and it is 0 after reset. -/
def Obligations.ErrHoldsTheLastCondition : Prop :=
  (∀ (i : Instr) (s t : State), formatOf i = .cmd → exec i s = .next t →
    ∃ r, t.response = some r ∧
      (reportsCondition r → t.err = r.code) ∧
      (¬ reportsCondition r →
        t.err = match i with
          | .openMux _ | .openDemux _ | .close _ => 0
          | _ => s.err)) ∧
  (∀ (s t : State) (bs : List Byte) (rest : List HostEvent), s.inbox = .transfer .cmd bs :: rest →
    decodeAs .cmd bs = .error .badOpcode → step s = .next t → t.err = 0x10 ∧
      ∃ r, t.response = some r ∧ r.code = 0x10 ∧ reportsCondition r) ∧
  (∀ (s t : State) (rest : List HostEvent), s.inbox = .hardReset :: rest → step s = .next t → t.err = 0) ∧
  State.reset.err = 0

/-- Precision (R328): a command that ends with class REFUSED, INCOMPLETE or ERROR leaves every piece of state as
it was, but that `ERR` takes the code, that class ERROR from FEED_FRAME sets `MODE` to FAILED (OPEN_MUX and the
pure commands do not), and that PUSH_AUDIO refused with FifoFull sets `AOVF`. -/
def Obligations.RefusalsArePrecise : Prop :=
  ∀ (i : Instr) (s t : State) (r : Response), formatOf i = .cmd → exec i s = .next t →
    t.response = some r → reportsCondition r →
    t = { s with
      err := r.code
      response := some r
      mode := match i with
        | .feedFrame _ => if r.cls = .error then .failed else s.mode
        | _ => s.mode
      aovf := match i with
        | .pushAudio _ => s.aovf || r.code == 0x16
        | _ => s.aovf }

/-- Legal commands per mode (R336): outside the modes of its row a command is refused with SessionFailed when
the mode is FAILED and with BadMode otherwise; inside them it is never refused for the mode. -/
def Obligations.LegalCommandsPerMode : Prop :=
  ∀ (i : Instr) (s : State), formatOf i = .cmd →
    (s.mode ∉ legalModes i →
      exec i s = .next (endedState s .refused (if s.mode = .failed then 0x17 else 0x11))) ∧
    (s.mode ∈ legalModes i → ∀ t r, exec i s = .next t → t.response = some r →
      r.code ≠ 0x11 ∧ r.code ≠ 0x17)

/-- How `MODE` changes (R335): CLOSED to MUX by a successful OPEN_MUX, CLOSED to DEMUX by a successful
OPEN_DEMUX, DEMUX to FAILED by a fatal FEED_FRAME, any to CLOSED by a successful CLOSE; by nothing else. -/
def Obligations.ModeTransitions : Prop :=
  ∀ (i : Instr) (s t : State), exec i s = .next t → t.mode ≠ s.mode →
    ∃ r, t.response = some r ∧
      ((∃ o, i = .openMux o ∧ s.mode = .closed ∧ t.mode = .mux ∧ r.cls = .ok) ∨
       (∃ o, i = .openDemux o ∧ s.mode = .closed ∧ t.mode = .demux ∧ r.cls = .ok) ∨
       (∃ o, i = .feedFrame o ∧ s.mode = .demux ∧ t.mode = .failed ∧ r.cls = .error) ∨
       (∃ o, i = .close o ∧ t.mode = .closed ∧ r.cls = .ok))

/-- Pure commands (R103): the response is a function of the packet alone, in every mode and state, and nothing
else changes but `ERR`, with the code of a response that reports a condition. -/
def Obligations.PureCommands : Prop :=
  ∀ i : Instr, isPure i = true →
    ∃ r : Response, ∀ s : State,
      exec i s = .next { s with
        err := if r.cls = .ok then s.err else r.code
        response := some r }

/-- The profile is selected once (R22): OPEN_MUX and the first successful FEED_FRAME of a session write
`PROFILE` and set `PVALID`, OPEN_DEMUX and CLOSE clear `PVALID`; nothing else writes either. -/
def Obligations.ProfileIsLatched : Prop :=
  ∀ (i : Instr) (s t : State), exec i s = .next t →
    (t.profile ≠ s.profile ∨ t.pvalid ≠ s.pvalid) →
    (∃ o, i = .openMux o ∧ t.pvalid = true) ∨
    (∃ o, i = .feedFrame o ∧ s.pvalid = false ∧ t.pvalid = true) ∨
    (∃ o, i = .openDemux o ∧ t.pvalid = false) ∨
    (∃ o, i = .close o ∧ t.pvalid = false)

/-! ### Profile and pack tables -/

/-- The default configuration is well-formed, and building its machine gives the machine of the other statements;
of any configuration, a machine is built exactly when it is well-formed, and one that is not is refused (R7, R354;
the configuration as an argument: assumption log 14). -/
def Obligations.DefaultConfigurationWellFormed : Prop :=
  cfg.WellFormed ∧ construct cfg = .ok Sys2Proof.core ∧
  (∀ K : Cfg, K.WellFormed → ∃ M, construct K = .ok M) ∧
  (∀ K : Cfg, ¬ K.WellFormed → construct K = .error .illFormed)

/-- PROFILE_SELECT (R141, R142): its opcode, a flat match of channel count, segment count and frame size against the four
profiles, and its refusals in order. -/
def Obligations.ProfileSelectRule : Prop :=
  (∀ o : Operands, commandOf 0x10 o = some (.profileSelect o)) ∧
  ∀ (s : State) (o : Operands),
    exec (.profileSelect o) s = .next (
      if o.a ≠ 0 ∨ o.b ≠ 0 then endedState s .refused 0x12
      else if o.pay.length ≠ 6 then endedState s .refused 0x14
      else
        let triple := ((payAt o.pay 0).toNat, (payAt o.pay 1).toNat, leNat (slice o.pay 2 4))
        if triple = (1, 10, 120000) then okState s 0 []
        else if triple = (1, 12, 144000) then okState s 1 []
        else if triple = (2, 10, 240000) then okState s 2 []
        else if triple = (2, 12, 288000) then okState s 3 []
        else endedState s .error 0x01)

/-- PROFILE_DETECT (R143, R144): its opcode, the four bytes it reads, the profile they name, and its refusals in order. -/
def Obligations.ProfileDetectRule : Prop :=
  (∀ o : Operands, commandOf 0x11 o = some (.profileDetect o)) ∧
  ∀ (s : State) (o : Operands),
    exec (.profileDetect o) s = .next (
      if o.a ≠ 0 ∨ o.b ≠ 0 then endedState s .refused 0x12
      else if o.pay.length < 480 then endedState s .incomplete 0x03
      else if payAt o.pay 0 ≠ 0x1F ∨ payAt o.pay 3 &&& 0x7F ≠ 0x3F then endedState s .error 0x01
      else okState s
        ((if (payAt o.pay 3).getLsbD 7 then 1 else 0)
          + (if payAt o.pay 448 = 0x60 ∧ (payAt o.pay 451).getLsbD 2 = true then 2 else 0)) [])

/-- KIND_LOOKUP (R145, R146), its opcode, over the three distribution tables (R43, R44, R45), written out, and its refusals
in order. R145 does not name `B`: that a nonzero one is BadOperand, before the length, is read from R100, R115 and
R329 (assumption log 17). -/
def Obligations.KindLookupRule : Prop :=
  (∀ o : Operands, commandOf 0x12 o = some (.kindLookup o)) ∧
  ∀ (s : State) (o : Operands),
    exec (.kindLookup o) s = .next (
      let seg := (payAt o.pay 1).toNat
      let slot := (payAt o.pay 2).toNat
      let subcode : List Byte := if seg < 6 then [0x13, 0x13, 0x13, 0x13, 0x13, 0x13]
        else [0x13, 0x62, 0x63, 0x13, 0x62, 0x63]
      let auxiliary : List Byte := [0x60, 0x61, 0x62, 0x63, 0xFF, 0xFF, 0xFF, 0xFF, 0xFF,
        0x60, 0x61, 0x62, 0x63, 0xFF, 0xFF]
      let audio : List Byte := if seg % 2 = 0 then [0xFF, 0xFF, 0xFF, 0x50, 0x51, 0x52, 0x53, 0xFF, 0xFF]
        else [0x50, 0x51, 0x52, 0x53, 0xFF, 0xFF, 0xFF, 0xFF, 0xFF]
      let row := if payAt o.pay 0 = 0 then subcode else if payAt o.pay 0 = 1 then auxiliary else audio
      if o.a.toNat ≥ 4 ∨ o.b ≠ 0 then endedState s .refused 0x12
      else if o.pay.length ≠ 3 then endedState s .refused 0x14
      else if (payAt o.pay 0).toNat > 2 ∨ seg ≥ (if o.a = 0 ∨ o.a = 2 then 10 else 12) ∨ slot ≥ row.length then
        endedState s .refused 0x12
      else okState s (row.getD slot 0) [])

/-- The codec contract (R160): encoding fields that fit gives five bytes whose decoding is the same kind and
fields; decoding is total on five bytes with a selector of the map; and encoding what a pack decodes to gives
the pack back exactly when its constant bits are those the layout gives, that is, when some encoding has its
content. At the level of the commands, PACK_DEC undoes PACK_ENC in every state. -/
def Obligations.PackCodecContract : Prop :=
  (∀ (k : PackKind) (dsf : Bool) (vs : List Nat), (dsf = true → k = .hdr) → fieldsFit (widthsOf k) vs = true →
    ∃ bs, encodePack k dsf vs = .ok bs ∧ bs.length = 5 ∧ payAt bs 0 = selectorOf k dsf ∧
      decodePack bs = some (k, dsf, vs)) ∧
  (∀ bs : List Byte, bs.length = 5 → (kindOfSelector (payAt bs 0)).isSome = true →
    ∃ k dsf vs, decodePack bs = some (k, dsf, vs) ∧ fieldsFit (widthsOf k) vs = true ∧
      (encodePack k dsf vs = .ok bs ↔ ∃ k' dsf' vs', encodePack k' dsf' vs' = .ok bs)) ∧
  (∀ (k : PackKind) (dsf : Bool) (fields : List Byte) (s s' : State), (dsf = true → k = .hdr) →
    fieldsFit (widthsOf k) (fields.map BitVec.toNat) = true →
    ∃ bs, exec (.packEnc ⟨selectorOf k dsf, 0, fields⟩) s = .next (okState s 0 bs) ∧
      exec (.packDec ⟨0, 0, bs⟩) s' = .next (okState s' (selectorOf k dsf) fields))

/-- PACK_ENC (R161): BadOperand for a byte that is no selector, LengthMismatch for a wrong number of fields,
FieldRange for a field above its width, else the five bytes of the pack with these fields. PACK_DEC (R162):
LengthMismatch when the payload is not five bytes, BadOperand when byte 0 is no selector, else `RA` byte 0 and one
byte for each field of the pack the bytes decode to. Neither rule names `B` of PACK_ENC or `A` and `B` of PACK_DEC as
a refusal: that a nonzero unused one is BadOperand, before the length, is read from R100, R115 and R329 (assumption
log 17). -/
def Obligations.PackCommandRules : Prop :=
  ∀ (s : State) (o : Operands),
    exec (.packEnc o) s = .next (
      if o.a.toNat ∉ [0x3F, 0xBF, 0x13, 0x50, 0x51, 0x52, 0x53, 0x60, 0x61, 0x62, 0x63, 0xFF] ∨ o.b ≠ 0 then
        endedState s .refused 0x12
      else
        let count := if o.a = 0x13 then 14 else if o.a = 0x50 then 13 else if o.a = 0x51 then 11
          else if o.a = 0x52 ∨ o.a = 0x53 ∨ o.a = 0x62 ∨ o.a = 0x63 then 8
          else if o.a = 0x61 then 6 else if o.a = 0xFF then 0 else 7
        let k := ((kindOfSelector o.a).map Prod.fst).getD .nopack
        if o.pay.length ≠ count then endedState s .refused 0x14
        else if fieldsFit (widthsOf k) (o.pay.map BitVec.toNat) then
          okState s 0 (encode (packInstr k (o.a.getLsbD 7) (o.pay.map BitVec.toNat)))
        else endedState s .refused 0x13) ∧
    exec (.packDec o) s = .next (
      if o.a ≠ 0 ∨ o.b ≠ 0 then endedState s .refused 0x12
      else if o.pay.length ≠ 5 then endedState s .refused 0x14
      else match decodePackInstr o.pay with
        | .error _ => endedState s .refused 0x12
        | .ok i => okState s (payAt o.pay 0) (((packOf i).map fun q => q.2.2.map byte).getD []))

/-- TC_DERIVE gives the `n`-th label of the counting rule (R167), for every profile and every 64-bit `n`: labels
counted upward from 00:00:00:00, with the frame numbers 0 and 1 skipped at the start of every minute not
divisible by 10 when `p.drop = 1`; and its refusals, that of a nonzero `B` read from R100, R115 and R329
(assumption log 17). -/
def Obligations.TimecodeFollowsTheCountingRule : Prop :=
  (∀ (s : State) (r n : Nat) (p : Profile), cfg.prof[r]? = some p → n < 2 ^ 64 →
    exec (.tcDerive ⟨byte r, 0, leBytes 8 n⟩) s = .next (okState s 0
      [byte (countLabel p n).h, byte (countLabel p n).m, byte (countLabel p n).s, byte (countLabel p n).f,
        if p.drop then 1 else 0])) ∧
  (∀ (s : State) (o : Operands), o.a.toNat ≥ 4 ∨ o.b ≠ 0 →
    exec (.tcDerive o) s = .next (endedState s .refused 0x12)) ∧
  (∀ (s : State) (o : Operands), o.a.toNat < 4 → o.b = 0 → o.pay.length ≠ 8 →
    exec (.tcDerive o) s = .next (endedState s .refused 0x14))

/-- The drop-frame invariant (R168), over the labels TC_DERIVE gives: no frame number 0 or 1 at a minute
boundary unless the minute is a multiple of 10; from one frame to the next the frame number advances by 1
modulo the divisor, or by 3 across a skipped pair; and the day has 2589408 frames, or 86400 times the divisor
without the correction, after which the labels return to 00:00:00:00. -/
def Obligations.DropFrameInvariant : Prop :=
  ∀ p ∈ cfg.prof, ∀ n : Nat,
    (p.drop = true → (tcLabel p n).s = 0 → (tcLabel p n).m % 10 ≠ 0 → 2 ≤ (tcLabel p n).f) ∧
    (tcLabel p n).f < p.ltc ∧
    ((tcLabel p (n + 1)).f = ((tcLabel p n).f + 1) % p.ltc ∨
      (p.drop = true ∧ (tcLabel p (n + 1)).f = ((tcLabel p n).f + 3) % p.ltc ∧ (tcLabel p (n + 1)).s = 0 ∧
        (tcLabel p (n + 1)).m % 10 ≠ 0)) ∧
    tcLabel p (n + (if p.drop then 2589408 else 86400 * p.ltc)) = tcLabel p n ∧
    tcLabel p (if p.drop then 2589408 else 86400 * p.ltc) = ⟨0, 0, 0, 0⟩

/-- The packs the assembler writes (R178): the assembler values of every kind's rule, for every profile and
context in range. -/
def Obligations.AssemblerPacks : Prop :=
  ∀ p ∈ cfg.prof, ∀ x : Ctx,
    let u := fun (w v : Nat) => BitVec.ofNat w v
    let l := tcLabel p x.n
    let dsf := u 1 p.dsf.toNat
    makePack .hdr p x = .ok [dsf ++ 0x3F#7, 0xF8, 0x78, 0x78, 0x78] ∧
    makePack .tc p x = .ok [0x13, 0#1 ++ u 1 p.drop.toNat ++ u 2 (l.f / 10) ++ u 4 (l.f % 10),
      1#1 ++ u 3 (l.s / 10) ++ u 4 (l.s % 10), 1#1 ++ u 3 (l.m / 10) ++ u 4 (l.m % 10),
      0b11#2 ++ u 2 (l.h / 10) ++ u 4 (l.h % 10)] ∧
    (x.afreq = 0 → x.aquant ≤ 1 →
      makePack .audioSource p x = .ok [0x50, 0b01#2 ++ u 6 (samplesOf p x.n - p.mins.getD 0 0), 0x00,
        0b11#2 ++ dsf ++ u 5 (if x.naudio = 2 then 2 else 0), 0b10#2 ++ 0#3 ++ u 3 x.aquant]) ∧
    (x.afreq = 1 ∨ x.afreq = 2 → makePack .audioSource p x = .error .fieldRange) ∧
    makePack .audioControl p x = .ok [0x51, 0x1C, 0xCF, 0xA0, 0xFF] ∧
    makePack .videoSource p x = .ok [0x60, 0xFF, 0xFF, 0b11#2 ++ dsf ++ u 5 p.vstype, 0xFF] ∧
    (x.aspect ≤ 7 → makePack .videoControl p x = .ok [0x61, 0x3F, 0b11001#5 ++ u 3 x.aspect, 0xFC, 0xFF]) ∧
    makePack .nopack p x = .ok [0xFF, 0xFF, 0xFF, 0xFF, 0xFF] ∧
    (dateInRange x.date = true →
      let date : List Byte := [0xFF, 0b11#2 ++ u 2 (x.date.dd.toNat / 10) ++ u 4 (x.date.dd.toNat % 10),
        0#3 ++ u 1 (x.date.mo.toNat / 10) ++ u 4 (x.date.mo.toNat % 10),
        u 4 (x.date.yy.toNat / 10) ++ u 4 (x.date.yy.toNat % 10)]
      let time : List Byte := [0xFF, 1#1 ++ u 3 (x.date.ss.toNat / 10) ++ u 4 (x.date.ss.toNat % 10),
        1#1 ++ u 3 (x.date.mi.toNat / 10) ++ u 4 (x.date.mi.toNat % 10),
        0b11#2 ++ u 2 (x.date.hh.toNat / 10) ++ u 4 (x.date.hh.toNat % 10)]
      makePack .audioRecDate p x = .ok (0x52 :: date) ∧ makePack .videoRecDate p x = .ok (0x62 :: date) ∧
      makePack .audioRecTime p x = .ok (0x53 :: time) ∧ makePack .videoRecTime p x = .ok (0x63 :: time))

/-! ### Frames -/

/-- FORMAT_FRAME (R200): the skeleton byte by byte, through the block map of R64 and the block layouts of R66 to
R71, for every context in range; and its refusals, that of a nonzero `B` read from R100, R115 and R329 (assumption
log 17). -/
def Obligations.SkeletonLayout : Prop :=
  ∀ (s : State) (r : Nat) (p : Profile) (bs : List Byte), cfg.prof[r]? = some p →
    let x := ctxOf bs
    let inRange := x.naudio ≤ 2 ∧ x.afreq ≤ 2 ∧ x.aquant ≤ 1 ∧ x.aspect ≤ 7 ∧ dateInRange x.date = true
    (bs.length = 18 → inRange → x.naudio ≤ p.C → (x.naudio = 0 ∨ x.afreq = 0) →
      ∃ F, exec (.formatFrame ⟨byte r, 0, bs⟩) s = .next (okState s 0 F) ∧ F.length = p.frameSize ∧
        ∀ c sg b j, c < p.C → sg < p.S → b < 150 → j < 80 →
          payAt F ((c * p.S + sg) * 12000 + 80 * b + j) = skeletonByte p x c sg b j) ∧
    (bs.length = 18 → ¬ (inRange ∧ x.naudio ≤ p.C ∧ (x.naudio = 0 ∨ x.afreq = 0)) →
      exec (.formatFrame ⟨byte r, 0, bs⟩) s = .next (endedState s .refused 0x13)) ∧
    (bs.length ≠ 18 → exec (.formatFrame ⟨byte r, 0, bs⟩) s = .next (endedState s .refused 0x14)) ∧
    (∀ o : Operands, o.a.toNat ≥ 4 ∨ o.b ≠ 0 →
      exec (.formatFrame o) s = .next (endedState s .refused 0x12))

/-- The skeleton is complete metadata (R202): PROFILE_DETECT recognises it as the profile it was formatted for,
its video payload is all `FILL`, and so is the audio payload of every channel. -/
def Obligations.SkeletonIsRecognised : Prop :=
  ∀ (s s' s'' : State) (r : Nat) (p : Profile) (bs F : List Byte), cfg.prof[r]? = some p →
    exec (.formatFrame ⟨byte r, 0, bs⟩) s = .next (okState s 0 F) →
    exec (.profileDetect ⟨0, 0, F⟩) s' = .next (okState s' (byte r) []) ∧
    exec (.extractVideo ⟨byte r, 0, F⟩) s'' = .next (okState s'' 0 (List.replicate (videoUnit p) 0xFF)) ∧
    ∀ c < p.C, ∀ a ∈ audioAddrs p c, payAt F a = 0xFF

/-- INJECT_VIDEO (R205): its opcode; byte `j` of chunk `i` of the video unit goes to payload byte `j` of the `i`-th video
block in address order, every other byte of the frame stays; and its refusals, that of a nonzero `B` read from R100,
R115 and R329 (assumption log 17). -/
def Obligations.InjectVideoRule : Prop :=
  (∀ o : Operands, commandOf 0x31 o = some (.injectVideo o)) ∧
  ∀ (s : State) (r : Nat) (p : Profile), cfg.prof[r]? = some p →
    (∀ F V : List Byte, F.length = p.frameSize → V.length = videoUnit p →
      ∃ F', exec (.injectVideo ⟨byte r, 0, F ++ V⟩) s = .next (okState s 0 F') ∧ F'.length = p.frameSize ∧
        (∀ c sg v j, c < p.C → sg < p.S → v < 135 → j < 77 →
          payAt F' (videoBlk p c sg v + 3 + j) = payAt V (77 * ((c * p.S + sg) * 135 + v) + j)) ∧
        (∀ a, (∀ c sg v j, c < p.C → sg < p.S → v < 135 → j < 77 → a ≠ videoBlk p c sg v + 3 + j) →
          payAt F' a = payAt F a)) ∧
    (∀ pay : List Byte, pay.length ≠ p.frameSize + videoUnit p →
      exec (.injectVideo ⟨byte r, 0, pay⟩) s = .next (endedState s .refused 0x14)) ∧
    (∀ o : Operands, o.a.toNat ≥ 4 ∨ o.b ≠ 0 →
      exec (.injectVideo o) s = .next (endedState s .refused 0x12))

/-- EXTRACT_VIDEO (R210): the concatenation of the video payload regions in address order; and its refusals, that of
a nonzero `B` read from R100, R115 and R329 (assumption log 17). -/
def Obligations.ExtractVideoRule : Prop :=
  ∀ (s : State) (r : Nat) (p : Profile), cfg.prof[r]? = some p →
    (∀ F : List Byte, F.length = p.frameSize →
      ∃ V, exec (.extractVideo ⟨byte r, 0, F⟩) s = .next (okState s 0 V) ∧ V.length = videoUnit p ∧
        ∀ c sg v j, c < p.C → sg < p.S → v < 135 → j < 77 →
          payAt V (77 * ((c * p.S + sg) * 135 + v) + j) = payAt F (videoBlk p c sg v + 3 + j)) ∧
    (∀ pay : List Byte, pay.length ≠ p.frameSize →
      exec (.extractVideo ⟨byte r, 0, pay⟩) s = .next (endedState s .refused 0x14)) ∧
    (∀ o : Operands, o.a.toNat ≥ 4 ∨ o.b ≠ 0 →
      exec (.extractVideo o) s = .next (endedState s .refused 0x12))

/-- The video round trip (R210, corner case): what EXTRACT_VIDEO takes out of a frame is what INJECT_VIDEO put
in, whatever the frame was. -/
def Obligations.VideoRoundTrip : Prop :=
  ∀ (s s' : State) (r : Nat) (p : Profile) (F V : List Byte), cfg.prof[r]? = some p →
    F.length = p.frameSize → V.length = videoUnit p →
    ∃ F', exec (.injectVideo ⟨byte r, 0, F ++ V⟩) s = .next (okState s 0 F') ∧
      exec (.extractVideo ⟨byte r, 0, F'⟩) s' = .next (okState s' 0 V)

/-- The payload address sets (R72): `VPAY(p)` is bytes 3 to 79 of every video block and `APAY(p, c)` bytes 8 to 79 of
every audio block of the channel; they have `p.video_unit` and `p.S * 9 * 72` addresses, all inside the frame,
without repeats, and are disjoint from one another; INJECT_VIDEO changes only
addresses of the first, INJECT_AUDIO for channel `c` only addresses of `APAY(p, c)`. -/
def Obligations.PayloadAddressSets : Prop :=
  ∀ (s : State) (r : Nat) (p : Profile), cfg.prof[r]? = some p →
    (∀ a, a ∈ videoAddrs p ↔ ∃ c sg v, c < p.C ∧ sg < p.S ∧ v < 135 ∧
      videoBlk p c sg v + 3 ≤ a ∧ a ≤ videoBlk p c sg v + 79) ∧
    (∀ c a, a ∈ audioAddrs p c ↔ ∃ sg g, sg < p.S ∧ g < 9 ∧
      audioBlk p c sg g + 8 ≤ a ∧ a ≤ audioBlk p c sg g + 79) ∧
    ((videoAddrs p).Nodup ∧ (videoAddrs p).length = videoUnit p ∧ ∀ a ∈ videoAddrs p, a < p.frameSize) ∧
    (∀ c < p.C, (audioAddrs p c).Nodup ∧ (audioAddrs p c).length = p.S * 9 * 72 ∧
      ∀ a ∈ audioAddrs p c, a < p.frameSize ∧ a ∉ videoAddrs p ∧
        ∀ c' < p.C, c' ≠ c → a ∉ audioAddrs p c') ∧
    (∀ F V F' : List Byte, F.length = p.frameSize →
      exec (.injectVideo ⟨byte r, 0, F ++ V⟩) s = .next (okState s 0 F') →
      ∀ a, a ∉ videoAddrs p → payAt F' a = payAt F a) ∧
    (∀ (c : Nat) (F P F' : List Byte), c < p.C → F.length = p.frameSize →
      exec (.injectAudio ⟨byte r, BitVec.ofNat 16 c, F ++ P⟩) s = .next (okState s 0 F') →
      ∀ a, a ∉ audioAddrs p c → payAt F' a = payAt F a)

/-- The order of injection does not matter (R207): video and audio, and audio of different channels, commute. -/
def Obligations.InjectionsCommute : Prop :=
  ∀ p ∈ cfg.prof, ∀ (F : Buffer) (V : List Byte) (P P' : Buffer) (c c' size size' : Nat),
    F.size = p.frameSize → V.length = videoUnit p → c < p.C → c' < p.C →
    shuffle16 p (injectVideo p F V) c P size = injectVideo p (shuffle16 p F c P size) V ∧
    (c ≠ c' → shuffle16 p (shuffle16 p F c P size) c' P' size'
      = shuffle16 p (shuffle16 p F c' P' size') c P size)

/-- EXTRACT_PACK (R215), its opcode, at the fixed offsets of R216, and its refusals in order. -/
def Obligations.ExtractPackRule : Prop :=
  (∀ o : Operands, commandOf 0x35 o = some (.extractPack o)) ∧
  ∀ (s : State) (o : Operands),
    exec (.extractPack o) s = .next (
      let at? : Option Nat := if o.b = 0x50 then some 4323 else if o.b = 0x51 then some 5603
        else if o.b = 0x60 then some 448 else if o.b = 0x61 then some 453 else none
      let size := if o.a = 0 then 120000 else if o.a = 1 then 144000 else if o.a = 2 then 240000 else 288000
      match at? with
      | none => endedState s .refused 0x12
      | some a =>
        if o.a.toNat ≥ 4 then endedState s .refused 0x12
        else if o.pay.length ≠ size then endedState s .refused 0x14
        else if payAt o.pay a ≠ o.b.setWidth 8 then endedState s .refused 0x15
        else okState s 0 [payAt o.pay a, payAt o.pay (a + 1), payAt o.pay (a + 2), payAt o.pay (a + 3),
          payAt o.pay (a + 4)])

/-! ### Audio -/

/-- The shuffle map (R230) is a bijection from the slots of a channel onto `0 .. p.audio_words - 1`. -/
def Obligations.ShuffleMapIsABijection : Prop :=
  ∀ p ∈ cfg.prof,
    (∀ s g k, slotInRange p s g k → sidx p s g k < p.S * 9 * 36) ∧
    (∀ s g k s' g' k', slotInRange p s g k → slotInRange p s' g' k' → sidx p s g k = sidx p s' g' k' →
      s = s' ∧ g = g' ∧ k = k') ∧
    (∀ w < p.S * 9 * 36, ∃ s g k, slotInRange p s g k ∧ sidx p s g k = w)

/-- SHUF_ADDR (R231): its opcode, the word index and the frame address of a slot, and its refusals, that of a nonzero
`B` read from R100, R115 and R329 (assumption log 17). -/
def Obligations.ShufAddrRule : Prop :=
  (∀ o : Operands, commandOf 0x42 o = some (.shufAddr o)) ∧
  ∀ (s : State) (r : Nat) (p : Profile), cfg.prof[r]? = some p →
    (∀ c sg g k, c < p.C → slotInRange p sg g k →
      exec (.shufAddr ⟨byte r, 0, [byte c, byte sg, byte g, byte k]⟩) s = .next (okState s 0
        (leBytes 4 ((p.shuf.getD sg []).getD g 0 * p.stride + k * p.slotStep)
          ++ leBytes 4 ((c * p.S + sg) * 12000 + 80 * (6 + 16 * g) + 8 + 2 * k)))) ∧
    (∀ c sg g k : Byte, ¬ (c.toNat < p.C ∧ slotInRange p sg.toNat g.toNat k.toNat) →
      exec (.shufAddr ⟨byte r, 0, [c, sg, g, k]⟩) s = .next (endedState s .refused 0x12)) ∧
    (∀ pay : List Byte, pay.length ≠ 4 →
      exec (.shufAddr ⟨byte r, 0, pay⟩) s = .next (endedState s .refused 0x14)) ∧
    (∀ o : Operands, o.a.toNat ≥ 4 ∨ o.b ≠ 0 →
      exec (.shufAddr o) s = .next (endedState s .refused 0x12))

/-- INJECT_AUDIO (R206, R233): its opcode; a live slot receives the two PCM bytes of its word, swapped; every other byte of
the frame stays; and its refusals. -/
def Obligations.InjectAudioRule : Prop :=
  (∀ o : Operands, commandOf 0x32 o = some (.injectAudio o)) ∧
  ∀ (s : State) (r : Nat) (p : Profile), cfg.prof[r]? = some p →
    (∀ (c : Nat) (F P : List Byte), c < p.C → F.length = p.frameSize → P.length % 2 = 0 →
      P.length ≤ 2 * audioWords p →
      ∃ F', exec (.injectAudio ⟨byte r, BitVec.ofNat 16 c, F ++ P⟩) s = .next (okState s 0 F') ∧
        F'.length = p.frameSize ∧
        (∀ sg g k, slotInRange p sg g k → 2 * sidx p sg g k < P.length →
          payAt F' (slotAddr p c sg g k) = payAt P (2 * sidx p sg g k + 1) ∧
          payAt F' (slotAddr p c sg g k + 1) = payAt P (2 * sidx p sg g k)) ∧
        (∀ a, (∀ sg g k, slotInRange p sg g k → 2 * sidx p sg g k < P.length →
            a ≠ slotAddr p c sg g k ∧ a ≠ slotAddr p c sg g k + 1) → payAt F' a = payAt F a)) ∧
    (∀ (b : Half) (pay : List Byte), b.toNat < p.C →
      (pay.length < p.frameSize ∨ (pay.length - p.frameSize) % 2 = 1 ∨
        pay.length - p.frameSize > 2 * audioWords p) →
      exec (.injectAudio ⟨byte r, b, pay⟩) s = .next (endedState s .refused 0x14)) ∧
    (∀ (b : Half) (pay : List Byte), b.toNat ≥ p.C →
      exec (.injectAudio ⟨byte r, b, pay⟩) s = .next (endedState s .refused 0x12)) ∧
    (∀ o : Operands, o.a.toNat ≥ 4 → exec (.injectAudio o) s = .next (endedState s .refused 0x12))

/-- EXTRACT_AUDIO of a frame whose audio source pack says 16-bit linear (R243, R244, R234, R236): the header, and
for each stream the swapped words of DIF channel `i`, the silence code as zero, zero where no slot is. -/
def Obligations.ExtractAudioLinear : Prop :=
  ∀ (s : State) (r : Nat) (p : Profile) (F : List Byte), cfg.prof[r]? = some p → F.length = p.frameSize →
    let smp := (payAt F 4327).toNat / 8 % 8
    let size := 4 * (p.mins.getD smp 0 + (payAt F 4324).toNat % 64)
    let ns := if (payAt F 4326).toNat % 32 = 2 ∧ p.C = 2 then 2 else 1
    payAt F 4323 = 0x50 → (payAt F 4327).toNat % 8 = 0 → smp ≤ 2 →
    ∃ B, exec (.extractAudio ⟨byte r, 0, F⟩) s
        = .next (okState s (byte ns) ([byte ns, byte smp, 0, 0] ++ leBytes 4 size ++ B)) ∧
      B.length = ns * size ∧
      ∀ i < ns,
        (∀ sg g k, slotInRange p sg g k → 2 * sidx p sg g k < size →
          let w := sidx p sg g k
          let hi := payAt F (slotAddr p i sg g k)
          let lo := payAt F (slotAddr p i sg g k + 1)
          payAt B (i * size + 2 * w) = (if hi = 0x80 ∧ lo = 0x00 then 0 else lo) ∧
          payAt B (i * size + 2 * w + 1) = (if hi = 0x80 ∧ lo = 0x00 then 0 else hi)) ∧
        (∀ w, 2 * w < size → p.S * 9 * 36 ≤ w →
          payAt B (i * size + 2 * w) = 0 ∧ payAt B (i * size + 2 * w + 1) = 0)

/-- EXTRACT_AUDIO of a frame whose audio source pack says 12-bit nonlinear (R240, R242, R245): each triple of
the segments of stream `i`, in DIF channel 0, gives one left and one right sample at its place, the muted code as
zero; a word that no triple writes is zero. -/
def Obligations.ExtractAudioNonlinear : Prop :=
  ∀ (s : State) (r : Nat) (p : Profile) (F : List Byte), cfg.prof[r]? = some p → F.length = p.frameSize →
    let smp := (payAt F 4327).toNat / 8 % 8
    let size := 4 * (p.mins.getD smp 0 + (payAt F 4324).toNat % 64)
    let ns := if smp = 2 then 2 else 1
    let wl := fun h g t => (p.shuf.getD h []).getD g 0 * p.stride + t * p.slotStep
    let wr := fun h g t => (p.shuf.getD (h + p.S / 2) []).getD g 0 * p.stride + t * p.slotStep
    let sample := fun c : BitVec 12 => if c = 0x800 then 0 else expand12 c
    payAt F 4323 = 0x50 → (payAt F 4327).toNat % 8 = 1 → smp ≤ 2 →
    ∃ B, exec (.extractAudio ⟨byte r, 0, F⟩) s
        = .next (okState s (byte ns) ([byte ns, byte smp, 1, 0] ++ leBytes 4 size ++ B)) ∧
      B.length = ns * size ∧
      ∀ i < ns,
        (∀ h g t, h < p.S / 2 → g < 9 → t < 24 →
          let a := audioBlk p 0 (i * (p.S / 2) + h) g + 8 + 3 * t
          let l : BitVec 12 := payAt F a ++ (payAt F (a + 2)).extractLsb' 4 4
          let q : BitVec 12 := payAt F (a + 1) ++ (payAt F (a + 2)).extractLsb' 0 4
          (2 * wl h g t < size → payAt B (i * size + 2 * wl h g t) = (sample l).extractLsb' 0 8 ∧
            payAt B (i * size + 2 * wl h g t + 1) = (sample l).extractLsb' 8 8) ∧
          (2 * wr h g t < size → payAt B (i * size + 2 * wr h g t) = (sample q).extractLsb' 0 8 ∧
            payAt B (i * size + 2 * wr h g t + 1) = (sample q).extractLsb' 8 8)) ∧
        (∀ w, 2 * w < size → (∀ h g t, h < p.S / 2 → g < 9 → t < 24 → w ≠ wl h g t ∧ w ≠ wr h g t) →
          payAt B (i * size + 2 * w) = 0 ∧ payAt B (i * size + 2 * w + 1) = 0)

/-- The other answers of EXTRACT_AUDIO (R243, R244): a frame without an audio source pack at `AsAddr` has no
audio; a quantization code above 1 is UnsupportedQuantization, tested before a frequency code above 2, which is
ProfileUnrecognized; and the refusals, that of a nonzero `B` read from R100, R115 and R329 (assumption log 17). -/
def Obligations.ExtractAudioOtherwise : Prop :=
  ∀ (s : State) (r : Nat) (p : Profile), cfg.prof[r]? = some p →
    (∀ F : List Byte, F.length = p.frameSize →
      (payAt F 4323 ≠ 0x50 →
        exec (.extractAudio ⟨byte r, 0, F⟩) s = .next (okState s 0 [0, 0, 0, 0, 0, 0, 0, 0])) ∧
      (payAt F 4323 = 0x50 → (payAt F 4327).toNat % 8 > 1 →
        exec (.extractAudio ⟨byte r, 0, F⟩) s = .next (endedState s .error 0x02)) ∧
      (payAt F 4323 = 0x50 → (payAt F 4327).toNat % 8 ≤ 1 → (payAt F 4327).toNat / 8 % 8 > 2 →
        exec (.extractAudio ⟨byte r, 0, F⟩) s = .next (endedState s .error 0x01))) ∧
    (∀ pay : List Byte, pay.length ≠ p.frameSize →
      exec (.extractAudio ⟨byte r, 0, pay⟩) s = .next (endedState s .refused 0x14)) ∧
    (∀ o : Operands, o.a.toNat ≥ 4 ∨ o.b ≠ 0 →
      exec (.extractAudio o) s = .next (endedState s .refused 0x12))

/-- The 16-bit audio round trip (R235): for every profile, channel, even size up to the largest frame's and PCM,
de-shuffling what was shuffled gives the PCM back, whatever the frame was, but that a word equal to `MUTE16` (bytes
`00 80`) comes back as `00 00`. -/
def Obligations.AudioRoundTrip : Prop :=
  ∀ p ∈ cfg.prof, ∀ (c : Nat) (F : Buffer) (P : List Byte), c < p.C → F.size = p.frameSize →
    P.length % 2 = 0 → (∃ d ∈ p.dist, P.length ≤ 4 * d) →
    let Q := deshuffle16 p (shuffle16 p F c P.toArray P.length) c P.length
    (noMuteWord P → Q = P.toArray) ∧
    Q.size = P.length ∧
    ∀ w, 2 * w + 1 < P.length →
      if payAt P (2 * w) = 0x00 ∧ payAt P (2 * w + 1) = 0x80 then bufAt Q (2 * w) = 0 ∧ bufAt Q (2 * w + 1) = 0
      else bufAt Q (2 * w) = payAt P (2 * w) ∧ bufAt Q (2 * w + 1) = payAt P (2 * w + 1)

/-- UNPACK12 (R240): its opcode, two 12-bit codes from three bytes, and its refusals, that of a nonzero `A` or `B`
read from R100, R115 and R329 (assumption log 17). -/
def Obligations.Unpack12Rule : Prop :=
  (∀ o : Operands, commandOf 0x41 o = some (.unpack12 o)) ∧
  (∀ (s : State) (b0 b1 b2 : Byte),
    exec (.unpack12 ⟨0, 0, [b0, b1, b2]⟩) s = .next (okState s 0
      (leBytes 2 (b0.toNat * 16 + b2.toNat / 16) ++ leBytes 2 (b1.toNat * 16 + b2.toNat % 16)))) ∧
  (∀ (s : State) (pay : List Byte), pay.length ≠ 3 →
    exec (.unpack12 ⟨0, 0, pay⟩) s = .next (endedState s .refused 0x14)) ∧
  (∀ (s : State) (o : Operands), o.a ≠ 0 ∨ o.b ≠ 0 →
    exec (.unpack12 o) s = .next (endedState s .refused 0x12))

/-- EXPAND12 (R241): its opcode, the pseudocode on plain numbers, for every 12-bit code; its refusals, that of a
nonzero `A` read from R100, R115 and R329 (assumption log 17); and corner case (c): strictly increasing over the codes
other than 0x800 in signed order, from -32641 to 32704. -/
def Obligations.Expand12Rule : Prop :=
  (∀ o : Operands, commandOf 0x40 o = some (.expand12 o)) ∧
  (∀ (s : State) (code : Nat), code < 4096 →
    let v := if code < 0x800 then code else code + 0xF000
    let sel := v / 256 % 16
    let r := if sel ≤ 1 ∨ sel ≥ 14 then v
      else if sel ≤ 7 then (v - 256 * (sel - 1)) * 2 ^ (sel - 1)
      else (v + 256 * (14 - sel) + 1) * 2 ^ (14 - sel) - 1
    exec (.expand12 ⟨0, BitVec.ofNat 16 code, []⟩) s
      = .next (okState s 0 [byte (r % 65536 % 256), byte (r % 65536 / 256)])) ∧
  (∀ (s : State) (o : Operands), o.a ≠ 0 ∨ o.b.toNat ≥ 4096 →
    exec (.expand12 o) s = .next (endedState s .refused 0x12)) ∧
  (∀ (s : State) (o : Operands), o.a = 0 → o.b.toNat < 4096 → o.pay ≠ [] →
    exec (.expand12 o) s = .next (endedState s .refused 0x14)) ∧
  (∀ c c' : BitVec 12, c ≠ 0x800 → c.toInt < c'.toInt → (expand12 c).toInt < (expand12 c').toInt) ∧
  (expand12 0x801).toInt = -32641 ∧ (expand12 0x7FF).toInt = 32704

/-! ### The mux session -/

/-- OPEN_MUX succeeds on a supported topology (R262): a profile's triple, video codec DV, at most one 48 kHz
16-bit stereo PCM stream per DIF channel, any aspect code; every piece of state is then as R38, column "after
OPEN_MUX", gives it. VBUF and FRAMEBUF, which that column leaves unspecified, list no byte (assumption log 9),
and the operand registers keep what the packet wrote. -/
def Obligations.OpenMuxCompletes : Prop :=
  ∀ (s : State) (r aspect n : Nat) (p : Profile), cfg.prof[r]? = some p → s.mode = .closed → aspect ≤ 7 →
    n ≤ p.C →
    exec (.openMux ⟨0, 0, [0, byte p.C, byte p.S, byte aspect] ++ leBytes 4 p.frameSize ++ [byte n, 0, 0, 0]
        ++ (List.replicate n ([0, 2, 16, 0] ++ leBytes 4 48000)).flatten⟩) s
      = .next (okState { State.reset with
          mode := .mux
          profile := BitVec.ofNat 2 r
          pvalid := true
          naudio := BitVec.ofNat 2 n
          aspect := BitVec.ofNat 3 aspect
          opc := s.opc, opA := s.opA, opB := s.opB, len := s.len, pay := s.pay
          inbox := s.inbox } (byte r) [])

/-- OPEN_MUX refuses a nonzero `A` or `B` with BadOperand, before the length (R262 prints no test of them: read from
R100, R115 and R329, assumption log 17), then refuses in the order R262 prints, and rejects every other topology as
StreamTopologyInvalid (R325); only `ERR` changes. -/
def Obligations.OpenMuxRejects : Prop :=
  (∀ (s : State) (o : Operands), s.mode = .closed → o.a ≠ 0 ∨ o.b ≠ 0 →
    exec (.openMux o) s = .next (endedState s .refused 0x12)) ∧
  ∀ (s : State) (o : Operands), s.mode = .closed → o.a = 0 → o.b = 0 →
    let n := (payAt o.pay 8).toNat
    let audioOk := ∀ i < n, payAt o.pay (12 + 8 * i) = 0 ∧ payAt o.pay (13 + 8 * i) = 2 ∧
      payAt o.pay (14 + 8 * i) = 16 ∧ leNat (slice o.pay (16 + 8 * i) 4) = 48000
    let triple := ((payAt o.pay 1).toNat, (payAt o.pay 2).toNat, leNat (slice o.pay 4 4))
    let tripleOk := triple = (1, 10, 120000) ∨ triple = (1, 12, 144000) ∨ triple = (2, 10, 240000) ∨
      triple = (2, 12, 288000)
    (o.pay.length < 12 → exec (.openMux o) s = .next (endedState s .refused 0x14)) ∧
    (12 ≤ o.pay.length → n > 2 → exec (.openMux o) s = .next (endedState s .error 0x04)) ∧
    (12 ≤ o.pay.length → n ≤ 2 → o.pay.length ≠ 12 + 8 * n →
      exec (.openMux o) s = .next (endedState s .refused 0x14)) ∧
    (n ≤ 2 → o.pay.length = 12 + 8 * n →
      ((payAt o.pay 9 ≠ 0 ∨ payAt o.pay 10 ≠ 0 ∨ payAt o.pay 11 ≠ 0 ∨ ∃ i < n, payAt o.pay (15 + 8 * i) ≠ 0) →
        exec (.openMux o) s = .next (endedState s .refused 0x12)) ∧
      (payAt o.pay 9 = 0 → payAt o.pay 10 = 0 → payAt o.pay 11 = 0 → (∀ i < n, payAt o.pay (15 + 8 * i) = 0) →
        ((payAt o.pay 3).toNat > 7 → exec (.openMux o) s = .next (endedState s .refused 0x13)) ∧
        ((payAt o.pay 3).toNat ≤ 7 →
          ¬ (payAt o.pay 0 = 0 ∧ tripleOk ∧ audioOk ∧ n ≤ (payAt o.pay 1).toNat) →
          exec (.openMux o) s = .next (endedState s .error 0x04))))

/-- PUSH_VIDEO (R263, R266, R267): the unit is stored, a unit still pending is lost and `VOVR` says so, EMITTED
ends; when the audio is there and no frame is READY, the frame is assembled from this unit and exactly `Req` bytes
of each FIFO. FRAMEBUF is given no value where R34 leaves it unspecified. The refusals follow. -/
def Obligations.PushVideoRule : Prop :=
  ∀ (s : State) (V : List Byte), StateInv s → s.mode = .mux → V.length = videoUnit (sessionProfile s) →
    let s1 := { s with vovr := s.vovr || s.vpend, vpend := true, vbuf := Memory.ofBytes V }
    (s.mstate = .ready → exec (.pushVideo ⟨0, 0, V⟩) s = .next (okState s1 0 [])) ∧
    (s.mstate ≠ .ready → ¬ audioReady s (fun _ => 0) →
      ∃ fb, exec (.pushVideo ⟨0, 0, V⟩) s
        = .next (okState { s1 with mstate := .accumulating, framebuf := fb } 0 [])) ∧
    (s.mstate ≠ .ready → audioReady s (fun _ => 0) →
      ∃ F0 vb, formatFrame (sessionProfile s) (sessionCtx s) = .ok F0 ∧
        exec (.pushVideo ⟨0, 0, V⟩) s = .next (okState
          { inputsTaken s1 vb with mstate := .ready, framebuf := Memory.ofBytes (frameFrom s F0 V) } 0 [])) ∧
    (∀ o : Operands, o.a ≠ 0 ∨ o.b ≠ 0 → exec (.pushVideo o) s = .next (endedState s .refused 0x12)) ∧
    (∀ pay : List Byte, pay.length ≠ videoUnit (sessionProfile s) →
      exec (.pushVideo ⟨0, 0, pay⟩) s = .next (endedState s .refused 0x14))

/-- PUSH_AUDIO (R264, R266, R267): the bytes are appended to the stream's FIFO, and the frame is assembled when
that makes it complete; a push that does not fit is refused whole and sets `AOVF`. FRAMEBUF is given no value
where R34 leaves it unspecified. The refusal of a stream the session has not (every `A` when it has none) and of a
nonzero `B` follows. -/
def Obligations.PushAudioRule : Prop :=
  (∀ (s : State) (a : Byte) (x : List Byte), StateInv s → s.mode = .mux → a.toNat < s.naudio.toNat →
    let s1 := if a = 0 then { s with fifo0 := s.fifo0 ++ x } else { s with fifo1 := s.fifo1 ++ x }
    let ready := s.vpend = true ∧ audioReady s (fun i => if i = a.toNat then x.length else 0)
    (cfg.fifoCap < (fifoOf s a.toNat).length + x.length →
      exec (.pushAudio ⟨a, 0, x⟩) s = .next (endedState { s with aovf := true } .refused 0x16)) ∧
    ((fifoOf s a.toNat).length + x.length ≤ cfg.fifoCap → s.mstate = .ready →
      exec (.pushAudio ⟨a, 0, x⟩) s = .next (okState s1 0 [])) ∧
    ((fifoOf s a.toNat).length + x.length ≤ cfg.fifoCap → s.mstate ≠ .ready → ¬ ready →
      ∃ fb, exec (.pushAudio ⟨a, 0, x⟩) s
        = .next (okState { s1 with mstate := .accumulating, framebuf := fb } 0 [])) ∧
    ((fifoOf s a.toNat).length + x.length ≤ cfg.fifoCap → s.mstate ≠ .ready → ready →
      ∃ F0 vb V, V.length = videoUnit (sessionProfile s) ∧ s.vbuf = Memory.ofBytes V ∧
        formatFrame (sessionProfile s) (sessionCtx s) = .ok F0 ∧
        exec (.pushAudio ⟨a, 0, x⟩) s = .next (okState
          { inputsTaken s1 vb with mstate := .ready, framebuf := Memory.ofBytes (frameFrom s1 F0 V) } 0 []))) ∧
  (∀ (s : State) (o : Operands), s.mode = .mux → o.a.toNat ≥ s.naudio.toNat ∨ o.b ≠ 0 →
    exec (.pushAudio o) s = .next (endedState s .refused 0x12))

/-- TRY_EMIT_FRAME (R268): a READY frame is handed over, the frame counter advances (modulo `2^64`, R23) and the
state is EMITTED; without one, the frame is assembled first if its inputs are there, and else the answer is
NOT_READY, with `ERR` unwritten. The refusals follow. -/
def Obligations.TryEmitFrameRule : Prop :=
  ∀ s : State, StateInv s → s.mode = .mux →
    (s.mstate = .ready → ∃ F, F.length = (sessionProfile s).frameSize ∧ s.framebuf = Memory.ofBytes F ∧
      exec (.tryEmitFrame ⟨0, 0, []⟩) s
        = .next (okState { s with frames := s.frames + 1, mstate := .emitted } 0 F)) ∧
    (s.mstate ≠ .ready → ¬ (s.vpend = true ∧ audioReady s (fun _ => 0)) →
      ∃ fb, exec (.tryEmitFrame ⟨0, 0, []⟩) s
        = .next { s with mstate := .accumulating, framebuf := fb, response := some ⟨.notReady, 0, 0, []⟩ }) ∧
    (s.mstate ≠ .ready → s.vpend = true → audioReady s (fun _ => 0) →
      ∃ F0 vb V, V.length = videoUnit (sessionProfile s) ∧ s.vbuf = Memory.ofBytes V ∧
        formatFrame (sessionProfile s) (sessionCtx s) = .ok F0 ∧
        exec (.tryEmitFrame ⟨0, 0, []⟩) s = .next (okState
          { inputsTaken s vb with
            frames := s.frames + 1
            mstate := .emitted
            framebuf := Memory.ofBytes (frameFrom s F0 V) } 0 (frameFrom s F0 V))) ∧
    (∀ o : Operands, o.a ≠ 0 ∨ o.b ≠ 0 → exec (.tryEmitFrame o) s = .next (endedState s .refused 0x12)) ∧
    (∀ pay : List Byte, pay ≠ [] → exec (.tryEmitFrame ⟨0, 0, pay⟩) s = .next (endedState s .refused 0x14))

/-- The transition table of `MSTATE` in MUX mode (R269): a push that is taken and TRY_EMIT_FRAME move it as the
table says, with "ready" the condition of R266 after the command's own write; CLOSE, when it is taken, leaves
ACCUMULATING; a refused command and every other command leave it. -/
def Obligations.MuxStateTransitions : Prop :=
  ∀ (i : Instr) (s t : State) (r : Response), StateInv s → s.mode = .mux → formatOf i = .cmd → exec i s = .next t →
    t.response = some r →
    (reportsCondition r → t.mstate = s.mstate) ∧
    (¬ reportsCondition r →
      match i with
      | .pushVideo _ =>
        (s.mstate = .ready ∨ audioReady s (fun _ => 0) → t.mstate = .ready) ∧
        (s.mstate ≠ .ready → ¬ audioReady s (fun _ => 0) → t.mstate = .accumulating)
      | .pushAudio o =>
        let ready := s.vpend = true ∧ audioReady s (fun i => if i = o.a.toNat then o.pay.length else 0)
        (s.mstate = .ready ∨ ready → t.mstate = .ready) ∧
        (s.mstate ≠ .ready → ¬ ready → t.mstate = .accumulating)
      | .tryEmitFrame _ =>
        let ready := s.vpend = true ∧ audioReady s (fun _ => 0)
        (s.mstate = .ready ∨ ready → t.mstate = .emitted ∧ t.frames = s.frames + 1 ∧ r.cls = .ok) ∧
        (s.mstate ≠ .ready → ¬ ready → t.mstate = .accumulating ∧ t.frames = s.frames ∧ r.cls = .notReady)
      | .close _ => t.mstate = .accumulating ∧ t.mode = .closed
      | _ => t.mstate = s.mstate)

/-- FIFO equivalence (R270), for pushes that follow one another and fit in the FIFO together: pushing the bytes of a
stream in any chunks, single bytes among them, leaves the same state as pushing them in one, so that every frame
emitted from then on is the same. -/
def Obligations.FifoEquivalence : Prop :=
  ∀ (s : State) (a : Byte) (chunks : List (List Byte)), StateInv s → s.mode = .mux → a.toNat < s.naudio.toNat →
    chunks ≠ [] → (fifoOf s a.toNat).length + chunks.flatten.length ≤ cfg.fifoCap →
    ∃ t, exec (.pushAudio ⟨a, 0, chunks.flatten⟩) s = .next t ∧ pushChunks a chunks s = .next t ∧
      t.response = some ⟨.ok, 0, 0, []⟩

/-- SET_RECDT (R272): the six bytes, when each lies in its range of R28; and its refusals in order. -/
def Obligations.SetRecdtRule : Prop :=
  ∀ (s : State) (o : Operands), s.mode = .mux →
    exec (.setRecdt o) s = .next (
      if o.a ≠ 0 ∨ o.b ≠ 0 then endedState s .refused 0x12
      else if o.pay.length ≠ 6 then endedState s .refused 0x14
      else if (payAt o.pay 0).toNat ≤ 99 ∧ (payAt o.pay 1).toNat ≤ 19 ∧ (payAt o.pay 2).toNat ≤ 39 ∧
          (payAt o.pay 3).toNat ≤ 39 ∧ (payAt o.pay 4).toNat ≤ 79 ∧ (payAt o.pay 5).toNat ≤ 79 then
        okState { s with recdt := ⟨payAt o.pay 0, payAt o.pay 1, payAt o.pay 2, payAt o.pay 3, payAt o.pay 4,
          payAt o.pay 5⟩ } 0 []
      else endedState s .refused 0x13)

/-- READ_STATUS (R274): forty bytes that show every register, in every mode; it changes nothing, not even
`ERR`; and its refusals. `MSTATE` reads 0 outside MUX mode (R24) and `ABYTES` 0 outside a demux session (R25); in
FAILED, a terminated demux session, `ABYTES` shows the value it kept, which is the model's reading of R25 beside R330
and vector V61 (assumption log 12). A FIFO length of more than 32 bits would show modulo `2^32` (assumption log
22). -/
def Obligations.ReadStatusRule : Prop :=
  (∀ s : State, ∃ P : List Byte, exec (.readStatus ⟨0, 0, []⟩) s = .next (okState s 0 P) ∧ P.length = 40 ∧
    payAt P 0 = (match s.mode with | .closed => 0 | .mux => 1 | .demux => 2 | .failed => 3) ∧
    payAt P 1 = (if s.mode = .mux then (match s.mstate with | .accumulating => 0 | .ready => 1 | .emitted => 2)
      else 0) ∧
    payAt P 2 = 0#4 ++ BitVec.ofBool s.aovf ++ BitVec.ofBool s.vovr ++ BitVec.ofBool s.pvalid
      ++ BitVec.ofBool s.vpend ∧
    payAt P 3 = s.profile.setWidth 8 ∧ payAt P 4 = s.naudio.setWidth 8 ∧ payAt P 5 = s.err ∧
    payAt P 6 = s.afreq.setWidth 8 ∧ payAt P 7 = s.aquant.setWidth 8 ∧
    leNat (slice P 8 8) = s.frames.toNat ∧
    leNat (slice P 16 8) = (if s.mode = .demux ∨ s.mode = .failed then s.abytes.toNat else 0) ∧
    leNat (slice P 24 4) = s.fifo0.length % 2 ^ 32 ∧ leNat (slice P 28 4) = s.fifo1.length % 2 ^ 32 ∧
    payAt P 32 = s.aspect.setWidth 8 ∧ payAt P 33 = 0 ∧
    slice P 34 6 = [s.recdt.yy, s.recdt.mo, s.recdt.dd, s.recdt.hh, s.recdt.mi, s.recdt.ss]) ∧
  (∀ (s : State) (o : Operands), o.a ≠ 0 ∨ o.b ≠ 0 →
    exec (.readStatus o) s = .next (endedState s .refused 0x12)) ∧
  (∀ (s : State) (pay : List Byte), pay ≠ [] →
    exec (.readStatus ⟨0, 0, pay⟩) s = .next (endedState s .refused 0x14))

/-! ### The demux session and session end -/

/-- OPEN_DEMUX (R291): in CLOSED, every piece of state becomes as R38, column "after OPEN_DEMUX", gives it; and
its refusals in order. VBUF and FRAMEBUF, unspecified there, list no byte (assumption log 9), and the operand
registers keep what the packet wrote. -/
def Obligations.OpenDemuxRule : Prop :=
  ∀ (s : State) (o : Operands),
    exec (.openDemux o) s = .next (
      if s.mode = .failed then endedState s .refused 0x17
      else if s.mode ≠ .closed then endedState s .refused 0x11
      else if o.a ≠ 0 ∨ o.b ≠ 0 then endedState s .refused 0x12
      else if o.pay ≠ [] then endedState s .refused 0x14
      else okState { State.reset with
        mode := .demux
        opc := s.opc, opA := s.opA, opB := s.opB, len := s.len, pay := s.pay
        inbox := s.inbox } 0 [])

/-- CLOSE (R299): in every mode, every piece of session state takes its value of R38, column "reset and CLOSE";
and its refusals. VBUF and FRAMEBUF, unspecified there, list no byte (assumption log 9), and the operand
registers keep what the packet wrote. -/
def Obligations.CloseRule : Prop :=
  ∀ (s : State) (o : Operands),
    exec (.close o) s = .next (
      if o.a ≠ 0 ∨ o.b ≠ 0 then endedState s .refused 0x12
      else if o.pay ≠ [] then endedState s .refused 0x14
      else okState { State.reset with
        opc := s.opc, opA := s.opA, opB := s.opB, len := s.len, pay := s.pay
        inbox := s.inbox } 0 [])

/-- FEED_FRAME on a whole frame of a known profile, without an audio source pack or with one whose codes have a
meaning (R292, R296, R297, R298, R302): what it commits, and the `DecodedFrame` record field by field; bytes after
the frame are ignored. The audio of the record is EXTRACT_AUDIO's and its video EXTRACT_VIDEO's. -/
def Obligations.FeedFrameDecodes : Prop :=
  ∀ (s : State) (r : Nat) (q : Profile) (F extra : List Byte),
    s.mode = .demux → cfg.prof[r]? = some q → F.length = q.frameSize →
    detectProfile F = some r → (s.pvalid = true → r = s.profile.toNat) →
    (payAt F 4323 ≠ 0x50 ∨ ((payAt F 4327).toNat % 8 ≤ 1 ∧ (payAt F 4327).toNat / 8 % 8 ≤ 2)) →
    ∃ (ns smp qu size : Nat) (V B P : List Byte),
      exec (.extractVideo ⟨byte r, 0, F⟩) State.reset = .next (okState State.reset 0 V) ∧
      exec (.extractAudio ⟨byte r, 0, F⟩) State.reset = .next (okState State.reset (byte ns)
        ([byte ns, byte smp, byte qu, 0] ++ leBytes 4 size ++ B)) ∧
      ns ≤ 2 ∧ smp ≤ 2 ∧ qu ≤ 1 ∧ size < 2 ^ 32 ∧ B.length = ns * size ∧
      exec (.feedFrame ⟨0, 0, F ++ extra⟩) s = .next (okState
        { s with
          profile := BitVec.ofNat 2 r
          pvalid := true
          naudio := BitVec.ofNat 2 ns
          afreq := BitVec.ofNat 3 smp
          aquant := BitVec.ofNat 3 qu
          abytes := s.abytes + BitVec.ofNat 64 size
          frames := s.frames + 1 } (byte ns) P) ∧
      P.length = 44 + videoUnit q + ns * size ∧
      payAt P 0 = byte r ∧ payAt P 1 = byte ns ∧ payAt P 2 = byte smp ∧ payAt P 3 = byte qu ∧
      leNat (slice P 4 4) = (if ns = 0 then 0 else if smp = 0 then 48000 else if smp = 1 then 44100 else 32000) ∧
      payAt P 8 = (if ns = 0 then 0 else 2) ∧ slice P 9 3 = [0, 0, 0] ∧
      leNat (slice P 12 4) = size ∧ leNat (slice P 16 8) = s.frames.toNat ∧
      leNat (slice P 24 8) = (if ns = 0 then 0
        else s.abytes.toNat * 240000 / (32 * (if smp = 0 then 48000 else if smp = 1 then 44100 else 32000))) ∧
      leNat (slice P 32 4) = q.rateNum ∧ leNat (slice P 36 4) = q.rateDen ∧
      leNat (slice P 40 4) = videoUnit q ∧
      slice P 44 (videoUnit q) = V ∧ P.drop (44 + videoUnit q) = B

/-- FEED_FRAME otherwise (R292, R294, R295, R330): too short for the profile test, and too short for the frame,
are INCOMPLETE and change only `ERR`; an unknown profile, another profile than the session's, and what
EXTRACT_AUDIO reports on the frame are fatal and leave `MODE = FAILED`. -/
def Obligations.FeedFrameStops : Prop :=
  ∀ (s : State) (o : Operands), s.mode = .demux →
    (o.a ≠ 0 ∨ o.b ≠ 0 → exec (.feedFrame o) s = .next (endedState s .refused 0x12)) ∧
    (o.a = 0 → o.b = 0 →
      (o.pay.length < 480 → exec (.feedFrame o) s = .next (endedState s .incomplete 0x03)) ∧
      (480 ≤ o.pay.length →
        (detectProfile o.pay = none →
          exec (.feedFrame o) s = .next (endedState { s with mode := .failed } .error 0x01)) ∧
        (∀ r q, detectProfile o.pay = some r → cfg.prof[r]? = some q →
          (s.pvalid = true → r ≠ s.profile.toNat →
            exec (.feedFrame o) s = .next (endedState { s with mode := .failed } .error 0x01)) ∧
          ((s.pvalid = true → r = s.profile.toNat) →
            (o.pay.length < q.frameSize → exec (.feedFrame o) s = .next (endedState s .incomplete 0x03)) ∧
            (∀ code, q.frameSize ≤ o.pay.length →
              exec (.extractAudio ⟨byte r, 0, o.pay.take q.frameSize⟩) State.reset
                = .next (endedState State.reset .error code) →
              exec (.feedFrame o) s = .next (endedState { s with mode := .failed } .error code))))))

/-- The audio presentation time (R296): the first six values for profile 0 at 48 kHz, the form
`floor(ABYTES * 5 / 32)` they come from, and the general formula, rounded down. -/
def Obligations.AudioPresentationTime : Prop :=
  (∀ (n : Nat) (ap : AudioParams), 0 < ap.ns → ap.smp = 0 → audioPts n ap = n * 5 / 32) ∧
  (∀ (n : Nat) (ap : AudioParams), 0 < ap.ns → ap.smp ≤ 2 →
    audioPts n ap * (32 * rateOf ap.smp) ≤ n * 240000 ∧
    n * 240000 < (audioPts n ap + 1) * (32 * rateOf ap.smp)) ∧
  (∀ (n : Nat) (ap : AudioParams), ap.ns = 0 → audioPts n ap = 0) ∧
  [0, 6408, 12812, 19220, 25624, 32032].map (fun n => audioPts n ⟨1, 0, 0, 6408⟩)
    = [0, 1001, 2001, 3003, 4003, 5005]

/-! ### The machine -/

/-- The reset state satisfies the invariant. -/
def Obligations.ResetSatisfiesTheInvariant : Prop := StateInv State.reset

/-- Every step keeps the invariant, from every state that satisfies it: the byte stores stay canonical, the
registers stay in their ranges, a pending video unit and a READY frame are whole, the FIFOs stay within their
capacity. -/
def Obligations.EveryStepKeepsTheInvariant : Prop :=
  ∀ s t : State, StateInv s → step s = .next t → StateInv t

/-- From a state that satisfies the invariant no step faults: VBUF and FRAMEBUF are read only when they hold a
whole unit or frame (R38). -/
def Obligations.NoStepFaults : Prop :=
  ∀ s : State, StateInv s → ∀ f, step s ≠ .fault f

/-- Every frame a mux session emits is accepted by a demux session and gives back the same video unit and, word by
word, the same audio, but that a word equal to `MUTE16` comes back as zero (R235, R363): a stream that holds no such
word comes back as it was. `s` is a session with the frame's audio queued and `F`
the frame assembled from it and the unit `V` (R267). `F` is what TRY_EMIT_FRAME emits: where it assembles the pending
unit itself, after the PUSH_VIDEO of `V` that completed the frame, after the PUSH_AUDIO that did, and whenever `F`
waits READY in FRAMEBUF. -/
def Obligations.MuxDemuxRoundTrip : Prop :=
  ∀ (s d : State) (V : List Byte), StateInv s → s.mode = .mux → V.length = videoUnit (sessionProfile s) →
    audioReady s (fun _ => 0) →
    d.mode = .demux → (d.pvalid = true → d.profile = s.profile) →
    ∃ F0, formatFrame (sessionProfile s) (sessionCtx s) = .ok F0 ∧
      let F := frameFrom s F0 V
      let emits := fun t : State =>
        ∃ t', exec (.tryEmitFrame ⟨0, 0, []⟩) t = .next t' ∧ t'.response = some ⟨.ok, 0, 0, F⟩
      (∃ u P, exec (.feedFrame ⟨0, 0, F⟩) d = .next u ∧
        u.response = some ⟨.ok, 0, byte s.naudio.toNat, P⟩ ∧
        u.profile = s.profile ∧
        slice P 44 (videoUnit (sessionProfile s)) = V ∧
        ∀ i < s.naudio.toNat,
          let n := req (sessionProfile s) s.frames.toNat
          let A := (fifoOf s i).take n
          let Q := slice P (44 + videoUnit (sessionProfile s) + i * n) n
          sameButMuted A Q ∧ (noMuteWord A → Q = A)) ∧
      (s.mstate ≠ .ready → s.vpend = true → s.vbuf = Memory.ofBytes V → emits s) ∧
      (s.mstate ≠ .ready → ∃ t, exec (.pushVideo ⟨0, 0, V⟩) s = .next t ∧ emits t) ∧
      (∀ (s0 : State) (a : Byte) (x : List Byte), StateInv s0 → s0.mode = .mux → s0.mstate ≠ .ready →
        s0.vpend = true → s0.vbuf = Memory.ofBytes V → a.toNat < s0.naudio.toNat →
        s = (if a = 0 then { s0 with fifo0 := s0.fifo0 ++ x } else { s0 with fifo1 := s0.fifo1 ++ x }) →
        ∃ t, exec (.pushAudio ⟨a, 0, x⟩) s0 = .next t ∧ emits t) ∧
      (∀ t : State, t.mode = .mux → t.mstate = .ready → t.profile = s.profile → t.framebuf = Memory.ofBytes F →
        emits t)
end

