-- ==== Sys2Proof/Laws/Bytes.lean ====
section
/-! SUPPORT. Laws of byte order, slices and buffer writes. -/

namespace Sys2Proof.Machine

/-! ### Numbers as bytes -/

@[simp] theorem byte_toNat (n : Nat) : (byte n).toNat = n % 256 := by simp [byte]

@[simp] theorem byte_byte_toNat (b : Byte) : byte b.toNat = b := by simp [byte]

@[simp] theorem leBytes_length (k n : Nat) : (leBytes k n).length = k := by
  induction k generalizing n with
  | zero => rfl
  | succ k ih => simp [leBytes, ih]

@[simp] theorem beBytes_length (k n : Nat) : (beBytes k n).length = k := by simp [beBytes]

/-- Little-endian bytes spell their number modulo `256^k`. -/
theorem leNat_leBytes_mod (k n : Nat) : leNat (leBytes k n) = n % 256 ^ k := by
  induction k generalizing n with
  | zero => simp [leBytes, leNat, Nat.mod_one]
  | succ k ih =>
    simp only [leBytes, leNat, ih, byte_toNat, Nat.pow_succ]
    rw [Nat.mul_comm (256 ^ k) 256, Nat.mod_mul]

/-- A number that fits is read back (R104). -/
theorem leNat_leBytes {k n : Nat} (h : n < 256 ^ k) : leNat (leBytes k n) = n := by
  rw [leNat_leBytes_mod, Nat.mod_eq_of_lt h]

/-- A byte list is the bytes of the number it spells. -/
theorem leBytes_leNat (bs : List Byte) : leBytes bs.length (leNat bs) = bs := by
  induction bs with
  | nil => rfl
  | cons b bs ih =>
    have hb := b.isLt
    have h1 : byte (b.toNat + 256 * leNat bs) = b := by
      apply BitVec.eq_of_toNat_eq; simp; omega
    have h2 : (b.toNat + 256 * leNat bs) / 256 = leNat bs := by omega
    simp only [List.length_cons, leBytes, leNat, h1, h2, ih]

theorem leNat_lt (bs : List Byte) : leNat bs < 256 ^ bs.length := by
  induction bs with
  | nil => simp [leNat]
  | cons b bs ih =>
    have hb := b.isLt
    simp only [leNat, List.length_cons, Nat.pow_succ]
    omega

theorem beNat_beBytes_mod (k n : Nat) : beNat (beBytes k n) = n % 256 ^ k := by
  simp [beNat, beBytes, leNat_leBytes_mod]

theorem beBytes_beNat (bs : List Byte) : beBytes bs.length (beNat bs) = bs := by
  have h := leBytes_leNat bs.reverse
  rw [List.length_reverse] at h
  simp [beBytes, beNat, h]

theorem beNat_lt (bs : List Byte) : beNat bs < 256 ^ bs.length := by
  have h := leNat_lt bs.reverse
  simpa [beNat] using h

/-! ### Buffers -/

@[simp] theorem applyWrites_size (F : Buffer) (ws : List (Nat × Byte)) : (applyWrites F ws).size = F.size := by
  induction ws generalizing F with
  | nil => rfl
  | cons w ws ih => simpa [applyWrites] using ih (F.setIfInBounds w.1 w.2)

@[simp] theorem applyWrites_nil (F : Buffer) : applyWrites F [] = F := rfl

theorem applyWrites_cons (F : Buffer) (w : Nat × Byte) (ws : List (Nat × Byte)) :
    applyWrites F (w :: ws) = applyWrites (F.setIfInBounds w.1 w.2) ws := rfl

theorem applyWrites_append (F : Buffer) (ws ws' : List (Nat × Byte)) :
    applyWrites F (ws ++ ws') = applyWrites (applyWrites F ws) ws' := by
  simp [applyWrites, List.foldl_append]

/-- One write, read back. -/
theorem bufAt_setIfInBounds (F : Buffer) (i a : Nat) (b : Byte) :
    bufAt (F.setIfInBounds i b) a = if i = a ∧ a < F.size then b else bufAt F a := by
  simp only [bufAt, Array.getD_eq_getD_getElem?, Array.getElem?_setIfInBounds]
  by_cases h : i = a
  · subst h
    by_cases h2 : i < F.size <;> simp [h2]
  · simp [h]

/-- A write sequence leaves every byte it does not name. -/
theorem bufAt_applyWrites_of_not_mem {F : Buffer} {ws : List (Nat × Byte)} {a : Nat}
    (h : a ∉ ws.map Prod.fst) : bufAt (applyWrites F ws) a = bufAt F a := by
  induction ws generalizing F with
  | nil => rfl
  | cons w ws ih =>
    simp only [List.map_cons, List.mem_cons, not_or] at h
    rw [applyWrites_cons, ih h.2, bufAt_setIfInBounds, if_neg (fun c => h.1 c.1.symm)]

/-- A write sequence without repeats leaves at each address it names the byte it writes there. -/
theorem bufAt_applyWrites_of_mem {F : Buffer} {ws : List (Nat × Byte)} {a : Nat} {b : Byte}
    (hn : (ws.map Prod.fst).Nodup) (h : (a, b) ∈ ws) (ha : a < F.size) :
    bufAt (applyWrites F ws) a = b := by
  induction ws generalizing F with
  | nil => simp at h
  | cons w ws ih =>
    simp only [List.map_cons, List.nodup_cons] at hn
    rw [applyWrites_cons]
    rcases List.mem_cons.1 h with h | h
    · subst h
      rw [bufAt_applyWrites_of_not_mem hn.1, bufAt_setIfInBounds, if_pos ⟨rfl, ha⟩]
    · exact ih hn.2 h (by simpa using ha)

/-- Two buffers of one size that agree on every byte are equal. -/
theorem buffer_ext {F G : Buffer} (hs : F.size = G.size) (h : ∀ a < F.size, bufAt F a = bufAt G a) : F = G := by
  apply Array.ext hs
  intro i h1 h2
  have := h i h1
  simpa [bufAt, Array.getD, h1, h2] using this

/-- The byte of a buffer as a list. -/
theorem payAt_toList (F : Buffer) (a : Nat) : payAt F.toList a = bufAt F a := by
  simp [payAt, bufAt, Array.getD_eq_getD_getElem?, List.getD_eq_getElem?_getD]

theorem bufAt_toArray (bs : List Byte) (a : Nat) : bufAt bs.toArray a = payAt bs a := by
  simp [payAt, bufAt, Array.getD_eq_getD_getElem?, List.getD_eq_getElem?_getD]

theorem payAt_append_left {xs ys : List Byte} {i : Nat} (h : i < xs.length) :
    payAt (xs ++ ys) i = payAt xs i := by
  simp [payAt, List.getD_eq_getElem?_getD, List.getElem?_append_left h]

theorem payAt_append_right {xs ys : List Byte} {i : Nat} (h : xs.length ≤ i) :
    payAt (xs ++ ys) i = payAt ys (i - xs.length) := by
  simp [payAt, List.getD_eq_getElem?_getD, List.getElem?_append_right h]

end Sys2Proof.Machine
end

