-- ==== Sys2Proof/Laws/Config.lean ====
section
/-! SUPPORT. The default configuration in the operations that take one: the numbers of its fields, the address map
they give, and the machine they build. -/

namespace Sys2Proof.Machine

/-! ### Fields (R6) -/

@[simp] theorem cfg_block : cfg.block = 80 := rfl
@[simp] theorem cfg_packLen : cfg.packLen = 5 := rfl
@[simp] theorem cfg_segBlocks : cfg.segBlocks = 150 := rfl
@[simp] theorem cfg_idLen : cfg.idLen = 3 := rfl
@[simp] theorem cfg_subIdLen : cfg.subIdLen = 3 := rfl
@[simp] theorem cfg_ptsScale : cfg.ptsScale = 240000 := rfl
@[simp] theorem cfg_profileBytes : cfg.profileBytes = 480 := rfl
@[simp] theorem cfg_ctrBits : cfg.ctrBits = 64 := rfl
@[simp] theorem cfg_fill : cfg.fill = 0xFF := rfl

/-! ### The address map (R42, R63, R64, R70, R72, R216) -/

theorem videoUnit_eq (p : Profile) : videoUnit p = p.C * p.S * 135 * 77 := rfl
theorem segBase_eq (p : Profile) (c s : Nat) : segBase p c s = (c * p.S + s) * 12000 := rfl
theorem headerBlk_eq (p : Profile) (c s : Nat) : headerBlk p c s = (c * p.S + s) * 12000 := rfl
theorem subBlk_eq (p : Profile) (c s j : Nat) : subBlk p c s j = (c * p.S + s) * 12000 + 80 * (1 + j) := rfl
theorem auxBlk_eq (p : Profile) (c s j : Nat) : auxBlk p c s j = (c * p.S + s) * 12000 + 80 * (3 + j) := rfl
theorem audioBlk_eq (p : Profile) (c s g : Nat) :
    audioBlk p c s g = (c * p.S + s) * 12000 + 80 * (6 + 16 * g) := rfl
theorem videoBlk_eq (p : Profile) (c s v : Nat) :
    videoBlk p c s v = (c * p.S + s) * 12000 + 80 * (7 + v + v / 15) := rfl
theorem slotAddr_eq (p : Profile) (c s g k : Nat) :
    slotAddr p c s g k = (c * p.S + s) * 12000 + 80 * (6 + 16 * g) + 8 + 2 * k := rfl
@[simp] theorem audioPayload_eq : audioPayload = 8 := rfl
@[simp] theorem vsAddr_eq : vsAddr = 448 := rfl
@[simp] theorem vcAddr_eq : vcAddr = 453 := rfl
@[simp] theorem asAddr_eq : asAddr = 4323 := rfl
@[simp] theorem acAddr_eq : acAddr = 5603 := rfl

/-- The video payload addresses, in numbers. -/
theorem videoAddrs_eq (p : Profile) :
    videoAddrs p = (segments p).flatMap fun cs =>
      (List.range 135).flatMap fun v => (List.range 77).map fun j => videoBlk p cs.1 cs.2 v + 3 + j := rfl

/-- The audio payload addresses, in numbers. -/
theorem audioAddrs_eq (p : Profile) (c : Nat) :
    audioAddrs p c = (List.range p.S).flatMap fun s =>
      (List.range 9).flatMap fun g => (List.range 72).map fun j => audioBlk p c s g + 8 + j := rfl

/-! ### The machine -/

/-- `exec` is the dispatch at the default configuration. -/
theorem execWith_cfg (i : Instr) (s : State) : execWith cfg i s = exec i s := by
  cases i <;> rfl

/-- `step` is the step at the default configuration. -/
theorem stepWith_cfg : stepWith cfg = step := by
  funext s
  show cycleBy (execWith cfg) cfg s = cycleBy exec cfg s
  rw [show execWith cfg = exec from funext fun i => funext fun s => execWith_cfg i s]

/-- Everything building a machine can do. -/
theorem construct_cases (K : Cfg) :
    (K.check = true ∧ construct K = .ok
      { State := State, Fault := Fault, Refusal := Refusal, step := stepWith K, reset := State.reset }) ∨
    (K.check = false ∧ construct K = .error .illFormed) := by
  unfold construct
  cases h : K.check
  · exact .inr ⟨rfl, rfl⟩
  · exact .inl ⟨rfl, rfl⟩

end Sys2Proof.Machine
end

