-- ==== Sys2Proof/Laws/Memory.lean ====
section
/-! SUPPORT. Laws of the byte stores: every operation that makes one makes a canonical one, and what is stored is
read back. -/

namespace Sys2Proof.Machine

theorem Memory.ofBytesFrom_lower (a : Nat) (bytes : List Byte) :
    ∀ k ∈ (Memory.ofBytesFrom a bytes).map Prod.fst, a ≤ k := by
  induction bytes generalizing a with
  | nil => simp [Memory.ofBytesFrom]
  | cons b bs ih =>
    intro k hk
    simp only [Memory.ofBytesFrom, List.map_cons, List.mem_cons] at hk
    rcases hk with rfl | hk
    · exact Nat.le_refl _
    · exact Nat.le_of_succ_le (ih (a + 1) k hk)

theorem Memory.ofBytesFrom_wf (a : Nat) (bytes : List Byte) : Memory.wf (Memory.ofBytesFrom a bytes) := by
  induction bytes generalizing a with
  | nil => simp [Memory.ofBytesFrom, Memory.wf]
  | cons b bs ih =>
    simp only [Memory.wf, Memory.ofBytesFrom, List.map_cons, List.pairwise_cons]
    exact ⟨fun k hk => Memory.ofBytesFrom_lower (a + 1) bs k hk, ih (a + 1)⟩

/-- The store of a byte list is canonical. -/
theorem Memory.ofBytes_wf (bytes : List Byte) : Memory.wf (Memory.ofBytes bytes) := Memory.ofBytesFrom_wf 0 bytes

/-- The empty store, in which no byte has a value, is canonical. -/
@[simp] theorem Memory.nil_wf : Memory.wf [] := by simp [Memory.wf]

@[simp] theorem Memory.nil_read (a : Nat) : Memory.read [] a = none := rfl

theorem Memory.ofBytesFrom_read (a : Nat) (bytes : List Byte) (k : Nat) :
    Memory.read (Memory.ofBytesFrom a bytes) k = if a ≤ k then bytes[k - a]? else none := by
  induction bytes generalizing a with
  | nil => simp [Memory.ofBytesFrom]
  | cons b bs ih =>
    simp only [Memory.ofBytesFrom, Memory.read, ih]
    by_cases h : a = k
    · subst h; simp
    · rw [if_neg h]
      by_cases h2 : a + 1 ≤ k
      · rw [if_pos h2, if_pos (by omega)]
        have h3 : k - a = (k - (a + 1)) + 1 := by omega
        rw [h3, List.getElem?_cons_succ]
      · rw [if_neg h2, if_neg (by omega)]

/-- The store of a byte list reads as the list (R33, R34). -/
theorem Memory.ofBytes_read (bytes : List Byte) (k : Nat) : Memory.read (Memory.ofBytes bytes) k = bytes[k]? := by
  simp [Memory.ofBytes, Memory.ofBytesFrom_read]

theorem Memory.ofBytesFrom_readFrom (a : Nat) (bytes : List Byte) :
    Memory.readFrom (Memory.ofBytesFrom a bytes) a bytes.length = some bytes := by
  induction bytes generalizing a with
  | nil => simp [Memory.readFrom]
  | cons b bs ih => simp [Memory.ofBytesFrom, Memory.readFrom, ih]

/-- A buffer that was written whole is read back whole. -/
theorem Memory.ofBytes_readBytes (bytes : List Byte) :
    Memory.readBytes (Memory.ofBytes bytes) bytes.length = some bytes := Memory.ofBytesFrom_readFrom 0 bytes

/-- The byte list of a store is determined by the store. -/
theorem Memory.ofBytes_injective {xs ys : List Byte} (h : Memory.ofBytes xs = Memory.ofBytes ys) : xs = ys := by
  apply List.ext_getElem?
  intro k
  rw [← Memory.ofBytes_read, h, Memory.ofBytes_read]

/-- After reset both byte stores are canonical. -/
theorem State.reset_stores_wf : Memory.wf State.reset.vbuf ∧ Memory.wf State.reset.framebuf :=
  ⟨Memory.nil_wf, Memory.nil_wf⟩

end Sys2Proof.Machine
end

