-- ==== Sys2Proof/Laws/State.lean ====
section
/-! SUPPORT. What each named update of the state leaves in each field: one lemma a field, so that no proof unfolds
a record update. -/

namespace Sys2Proof.Machine

/-! ### Counters -/

/-- The counters of the default configuration count modulo `2^64` (R23, R25). -/
@[simp] theorem counter_add (x : Counter) (n : Nat) : counter (x.toNat + n) = x + BitVec.ofNat 64 n := by
  apply BitVec.eq_of_toNat_eq
  simp [counter, cfg, BitVec.toNat_add]

/-! ### `State.respond` -/

@[simp] theorem State.respond_mode (s : State) (ra : Byte) (v : List Byte) :
    (s.respond ra v).mode = s.mode := rfl
@[simp] theorem State.respond_profile (s : State) (ra : Byte) (v : List Byte) :
    (s.respond ra v).profile = s.profile := rfl
@[simp] theorem State.respond_pvalid (s : State) (ra : Byte) (v : List Byte) :
    (s.respond ra v).pvalid = s.pvalid := rfl
@[simp] theorem State.respond_frames (s : State) (ra : Byte) (v : List Byte) :
    (s.respond ra v).frames = s.frames := rfl
@[simp] theorem State.respond_mstate (s : State) (ra : Byte) (v : List Byte) :
    (s.respond ra v).mstate = s.mstate := rfl
@[simp] theorem State.respond_abytes (s : State) (ra : Byte) (v : List Byte) :
    (s.respond ra v).abytes = s.abytes := rfl
@[simp] theorem State.respond_naudio (s : State) (ra : Byte) (v : List Byte) :
    (s.respond ra v).naudio = s.naudio := rfl
@[simp] theorem State.respond_afreq (s : State) (ra : Byte) (v : List Byte) :
    (s.respond ra v).afreq = s.afreq := rfl
@[simp] theorem State.respond_aquant (s : State) (ra : Byte) (v : List Byte) :
    (s.respond ra v).aquant = s.aquant := rfl
@[simp] theorem State.respond_aspect (s : State) (ra : Byte) (v : List Byte) :
    (s.respond ra v).aspect = s.aspect := rfl
@[simp] theorem State.respond_recdt (s : State) (ra : Byte) (v : List Byte) :
    (s.respond ra v).recdt = s.recdt := rfl
@[simp] theorem State.respond_err (s : State) (ra : Byte) (v : List Byte) :
    (s.respond ra v).err = s.err := rfl
@[simp] theorem State.respond_vpend (s : State) (ra : Byte) (v : List Byte) :
    (s.respond ra v).vpend = s.vpend := rfl
@[simp] theorem State.respond_vovr (s : State) (ra : Byte) (v : List Byte) :
    (s.respond ra v).vovr = s.vovr := rfl
@[simp] theorem State.respond_aovf (s : State) (ra : Byte) (v : List Byte) :
    (s.respond ra v).aovf = s.aovf := rfl
@[simp] theorem State.respond_vbuf (s : State) (ra : Byte) (v : List Byte) :
    (s.respond ra v).vbuf = s.vbuf := rfl
@[simp] theorem State.respond_framebuf (s : State) (ra : Byte) (v : List Byte) :
    (s.respond ra v).framebuf = s.framebuf := rfl
@[simp] theorem State.respond_fifo0 (s : State) (ra : Byte) (v : List Byte) :
    (s.respond ra v).fifo0 = s.fifo0 := rfl
@[simp] theorem State.respond_fifo1 (s : State) (ra : Byte) (v : List Byte) :
    (s.respond ra v).fifo1 = s.fifo1 := rfl
@[simp] theorem State.respond_opc (s : State) (ra : Byte) (v : List Byte) :
    (s.respond ra v).opc = s.opc := rfl
@[simp] theorem State.respond_opA (s : State) (ra : Byte) (v : List Byte) :
    (s.respond ra v).opA = s.opA := rfl
@[simp] theorem State.respond_opB (s : State) (ra : Byte) (v : List Byte) :
    (s.respond ra v).opB = s.opB := rfl
@[simp] theorem State.respond_len (s : State) (ra : Byte) (v : List Byte) :
    (s.respond ra v).len = s.len := rfl
@[simp] theorem State.respond_pay (s : State) (ra : Byte) (v : List Byte) :
    (s.respond ra v).pay = s.pay := rfl
@[simp] theorem State.respond_response (s : State) (ra : Byte) (v : List Byte) :
    (s.respond ra v).response = some ⟨.ok, 0, ra, v⟩ := rfl
@[simp] theorem State.respond_inbox (s : State) (ra : Byte) (v : List Byte) :
    (s.respond ra v).inbox = s.inbox := rfl

/-! ### `State.respondNotReady` -/

@[simp] theorem State.respondNotReady_mode (s : State) :
    (s.respondNotReady).mode = s.mode := rfl
@[simp] theorem State.respondNotReady_profile (s : State) :
    (s.respondNotReady).profile = s.profile := rfl
@[simp] theorem State.respondNotReady_pvalid (s : State) :
    (s.respondNotReady).pvalid = s.pvalid := rfl
@[simp] theorem State.respondNotReady_frames (s : State) :
    (s.respondNotReady).frames = s.frames := rfl
@[simp] theorem State.respondNotReady_mstate (s : State) :
    (s.respondNotReady).mstate = s.mstate := rfl
@[simp] theorem State.respondNotReady_abytes (s : State) :
    (s.respondNotReady).abytes = s.abytes := rfl
@[simp] theorem State.respondNotReady_naudio (s : State) :
    (s.respondNotReady).naudio = s.naudio := rfl
@[simp] theorem State.respondNotReady_afreq (s : State) :
    (s.respondNotReady).afreq = s.afreq := rfl
@[simp] theorem State.respondNotReady_aquant (s : State) :
    (s.respondNotReady).aquant = s.aquant := rfl
@[simp] theorem State.respondNotReady_aspect (s : State) :
    (s.respondNotReady).aspect = s.aspect := rfl
@[simp] theorem State.respondNotReady_recdt (s : State) :
    (s.respondNotReady).recdt = s.recdt := rfl
@[simp] theorem State.respondNotReady_err (s : State) :
    (s.respondNotReady).err = s.err := rfl
@[simp] theorem State.respondNotReady_vpend (s : State) :
    (s.respondNotReady).vpend = s.vpend := rfl
@[simp] theorem State.respondNotReady_vovr (s : State) :
    (s.respondNotReady).vovr = s.vovr := rfl
@[simp] theorem State.respondNotReady_aovf (s : State) :
    (s.respondNotReady).aovf = s.aovf := rfl
@[simp] theorem State.respondNotReady_vbuf (s : State) :
    (s.respondNotReady).vbuf = s.vbuf := rfl
@[simp] theorem State.respondNotReady_framebuf (s : State) :
    (s.respondNotReady).framebuf = s.framebuf := rfl
@[simp] theorem State.respondNotReady_fifo0 (s : State) :
    (s.respondNotReady).fifo0 = s.fifo0 := rfl
@[simp] theorem State.respondNotReady_fifo1 (s : State) :
    (s.respondNotReady).fifo1 = s.fifo1 := rfl
@[simp] theorem State.respondNotReady_opc (s : State) :
    (s.respondNotReady).opc = s.opc := rfl
@[simp] theorem State.respondNotReady_opA (s : State) :
    (s.respondNotReady).opA = s.opA := rfl
@[simp] theorem State.respondNotReady_opB (s : State) :
    (s.respondNotReady).opB = s.opB := rfl
@[simp] theorem State.respondNotReady_len (s : State) :
    (s.respondNotReady).len = s.len := rfl
@[simp] theorem State.respondNotReady_pay (s : State) :
    (s.respondNotReady).pay = s.pay := rfl
@[simp] theorem State.respondNotReady_response (s : State) :
    (s.respondNotReady).response = some ⟨.notReady, 0, 0, []⟩ := rfl
@[simp] theorem State.respondNotReady_inbox (s : State) :
    (s.respondNotReady).inbox = s.inbox := rfl

/-! ### `State.raise` -/

@[simp] theorem State.raise_mode (s : State) (k : Kind) :
    (s.raise k).mode = s.mode := rfl
@[simp] theorem State.raise_profile (s : State) (k : Kind) :
    (s.raise k).profile = s.profile := rfl
@[simp] theorem State.raise_pvalid (s : State) (k : Kind) :
    (s.raise k).pvalid = s.pvalid := rfl
@[simp] theorem State.raise_frames (s : State) (k : Kind) :
    (s.raise k).frames = s.frames := rfl
@[simp] theorem State.raise_mstate (s : State) (k : Kind) :
    (s.raise k).mstate = s.mstate := rfl
@[simp] theorem State.raise_abytes (s : State) (k : Kind) :
    (s.raise k).abytes = s.abytes := rfl
@[simp] theorem State.raise_naudio (s : State) (k : Kind) :
    (s.raise k).naudio = s.naudio := rfl
@[simp] theorem State.raise_afreq (s : State) (k : Kind) :
    (s.raise k).afreq = s.afreq := rfl
@[simp] theorem State.raise_aquant (s : State) (k : Kind) :
    (s.raise k).aquant = s.aquant := rfl
@[simp] theorem State.raise_aspect (s : State) (k : Kind) :
    (s.raise k).aspect = s.aspect := rfl
@[simp] theorem State.raise_recdt (s : State) (k : Kind) :
    (s.raise k).recdt = s.recdt := rfl
@[simp] theorem State.raise_err (s : State) (k : Kind) :
    (s.raise k).err = kindCode k := rfl
@[simp] theorem State.raise_vpend (s : State) (k : Kind) :
    (s.raise k).vpend = s.vpend := rfl
@[simp] theorem State.raise_vovr (s : State) (k : Kind) :
    (s.raise k).vovr = s.vovr := rfl
@[simp] theorem State.raise_aovf (s : State) (k : Kind) :
    (s.raise k).aovf = s.aovf := rfl
@[simp] theorem State.raise_vbuf (s : State) (k : Kind) :
    (s.raise k).vbuf = s.vbuf := rfl
@[simp] theorem State.raise_framebuf (s : State) (k : Kind) :
    (s.raise k).framebuf = s.framebuf := rfl
@[simp] theorem State.raise_fifo0 (s : State) (k : Kind) :
    (s.raise k).fifo0 = s.fifo0 := rfl
@[simp] theorem State.raise_fifo1 (s : State) (k : Kind) :
    (s.raise k).fifo1 = s.fifo1 := rfl
@[simp] theorem State.raise_opc (s : State) (k : Kind) :
    (s.raise k).opc = s.opc := rfl
@[simp] theorem State.raise_opA (s : State) (k : Kind) :
    (s.raise k).opA = s.opA := rfl
@[simp] theorem State.raise_opB (s : State) (k : Kind) :
    (s.raise k).opB = s.opB := rfl
@[simp] theorem State.raise_len (s : State) (k : Kind) :
    (s.raise k).len = s.len := rfl
@[simp] theorem State.raise_pay (s : State) (k : Kind) :
    (s.raise k).pay = s.pay := rfl
@[simp] theorem State.raise_response (s : State) (k : Kind) :
    (s.raise k).response = some (kindResponse k) := rfl
@[simp] theorem State.raise_inbox (s : State) (k : Kind) :
    (s.raise k).inbox = s.inbox := rfl

/-! ### `State.raiseFatal` -/

@[simp] theorem State.raiseFatal_mode (s : State) (k : Kind) :
    (s.raiseFatal k).mode = .failed := rfl
@[simp] theorem State.raiseFatal_profile (s : State) (k : Kind) :
    (s.raiseFatal k).profile = s.profile := rfl
@[simp] theorem State.raiseFatal_pvalid (s : State) (k : Kind) :
    (s.raiseFatal k).pvalid = s.pvalid := rfl
@[simp] theorem State.raiseFatal_frames (s : State) (k : Kind) :
    (s.raiseFatal k).frames = s.frames := rfl
@[simp] theorem State.raiseFatal_mstate (s : State) (k : Kind) :
    (s.raiseFatal k).mstate = s.mstate := rfl
@[simp] theorem State.raiseFatal_abytes (s : State) (k : Kind) :
    (s.raiseFatal k).abytes = s.abytes := rfl
@[simp] theorem State.raiseFatal_naudio (s : State) (k : Kind) :
    (s.raiseFatal k).naudio = s.naudio := rfl
@[simp] theorem State.raiseFatal_afreq (s : State) (k : Kind) :
    (s.raiseFatal k).afreq = s.afreq := rfl
@[simp] theorem State.raiseFatal_aquant (s : State) (k : Kind) :
    (s.raiseFatal k).aquant = s.aquant := rfl
@[simp] theorem State.raiseFatal_aspect (s : State) (k : Kind) :
    (s.raiseFatal k).aspect = s.aspect := rfl
@[simp] theorem State.raiseFatal_recdt (s : State) (k : Kind) :
    (s.raiseFatal k).recdt = s.recdt := rfl
@[simp] theorem State.raiseFatal_err (s : State) (k : Kind) :
    (s.raiseFatal k).err = kindCode k := rfl
@[simp] theorem State.raiseFatal_vpend (s : State) (k : Kind) :
    (s.raiseFatal k).vpend = s.vpend := rfl
@[simp] theorem State.raiseFatal_vovr (s : State) (k : Kind) :
    (s.raiseFatal k).vovr = s.vovr := rfl
@[simp] theorem State.raiseFatal_aovf (s : State) (k : Kind) :
    (s.raiseFatal k).aovf = s.aovf := rfl
@[simp] theorem State.raiseFatal_vbuf (s : State) (k : Kind) :
    (s.raiseFatal k).vbuf = s.vbuf := rfl
@[simp] theorem State.raiseFatal_framebuf (s : State) (k : Kind) :
    (s.raiseFatal k).framebuf = s.framebuf := rfl
@[simp] theorem State.raiseFatal_fifo0 (s : State) (k : Kind) :
    (s.raiseFatal k).fifo0 = s.fifo0 := rfl
@[simp] theorem State.raiseFatal_fifo1 (s : State) (k : Kind) :
    (s.raiseFatal k).fifo1 = s.fifo1 := rfl
@[simp] theorem State.raiseFatal_opc (s : State) (k : Kind) :
    (s.raiseFatal k).opc = s.opc := rfl
@[simp] theorem State.raiseFatal_opA (s : State) (k : Kind) :
    (s.raiseFatal k).opA = s.opA := rfl
@[simp] theorem State.raiseFatal_opB (s : State) (k : Kind) :
    (s.raiseFatal k).opB = s.opB := rfl
@[simp] theorem State.raiseFatal_len (s : State) (k : Kind) :
    (s.raiseFatal k).len = s.len := rfl
@[simp] theorem State.raiseFatal_pay (s : State) (k : Kind) :
    (s.raiseFatal k).pay = s.pay := rfl
@[simp] theorem State.raiseFatal_response (s : State) (k : Kind) :
    (s.raiseFatal k).response = some (kindResponse k) := rfl
@[simp] theorem State.raiseFatal_inbox (s : State) (k : Kind) :
    (s.raiseFatal k).inbox = s.inbox := rfl

/-! ### `State.cleared` -/

@[simp] theorem State.cleared_mode (s : State) :
    (s.cleared).mode = .closed := rfl
@[simp] theorem State.cleared_profile (s : State) :
    (s.cleared).profile = 0 := rfl
@[simp] theorem State.cleared_pvalid (s : State) :
    (s.cleared).pvalid = false := rfl
@[simp] theorem State.cleared_frames (s : State) :
    (s.cleared).frames = 0 := rfl
@[simp] theorem State.cleared_mstate (s : State) :
    (s.cleared).mstate = .accumulating := rfl
@[simp] theorem State.cleared_abytes (s : State) :
    (s.cleared).abytes = 0 := rfl
@[simp] theorem State.cleared_naudio (s : State) :
    (s.cleared).naudio = 0 := rfl
@[simp] theorem State.cleared_afreq (s : State) :
    (s.cleared).afreq = 0 := rfl
@[simp] theorem State.cleared_aquant (s : State) :
    (s.cleared).aquant = 0 := rfl
@[simp] theorem State.cleared_aspect (s : State) :
    (s.cleared).aspect = 0 := rfl
@[simp] theorem State.cleared_recdt (s : State) :
    (s.cleared).recdt = defaultDate := rfl
@[simp] theorem State.cleared_err (s : State) :
    (s.cleared).err = 0 := rfl
@[simp] theorem State.cleared_vpend (s : State) :
    (s.cleared).vpend = false := rfl
@[simp] theorem State.cleared_vovr (s : State) :
    (s.cleared).vovr = false := rfl
@[simp] theorem State.cleared_aovf (s : State) :
    (s.cleared).aovf = false := rfl
@[simp] theorem State.cleared_vbuf (s : State) :
    (s.cleared).vbuf = [] := rfl
@[simp] theorem State.cleared_framebuf (s : State) :
    (s.cleared).framebuf = [] := rfl
@[simp] theorem State.cleared_fifo0 (s : State) :
    (s.cleared).fifo0 = [] := rfl
@[simp] theorem State.cleared_fifo1 (s : State) :
    (s.cleared).fifo1 = [] := rfl
@[simp] theorem State.cleared_opc (s : State) :
    (s.cleared).opc = s.opc := rfl
@[simp] theorem State.cleared_opA (s : State) :
    (s.cleared).opA = s.opA := rfl
@[simp] theorem State.cleared_opB (s : State) :
    (s.cleared).opB = s.opB := rfl
@[simp] theorem State.cleared_len (s : State) :
    (s.cleared).len = s.len := rfl
@[simp] theorem State.cleared_pay (s : State) :
    (s.cleared).pay = s.pay := rfl
@[simp] theorem State.cleared_response (s : State) :
    (s.cleared).response = s.response := rfl
@[simp] theorem State.cleared_inbox (s : State) :
    (s.cleared).inbox = s.inbox := rfl

/-! ### `openedMux` -/

@[simp] theorem openedMux_mode (s : State) (r n c : Nat) :
    (openedMux s r n c).mode = .mux := rfl
@[simp] theorem openedMux_profile (s : State) (r n c : Nat) :
    (openedMux s r n c).profile = BitVec.ofNat 2 r := rfl
@[simp] theorem openedMux_pvalid (s : State) (r n c : Nat) :
    (openedMux s r n c).pvalid = true := rfl
@[simp] theorem openedMux_frames (s : State) (r n c : Nat) :
    (openedMux s r n c).frames = 0 := rfl
@[simp] theorem openedMux_mstate (s : State) (r n c : Nat) :
    (openedMux s r n c).mstate = .accumulating := rfl
@[simp] theorem openedMux_abytes (s : State) (r n c : Nat) :
    (openedMux s r n c).abytes = 0 := rfl
@[simp] theorem openedMux_naudio (s : State) (r n c : Nat) :
    (openedMux s r n c).naudio = BitVec.ofNat 2 n := rfl
@[simp] theorem openedMux_afreq (s : State) (r n c : Nat) :
    (openedMux s r n c).afreq = 0 := rfl
@[simp] theorem openedMux_aquant (s : State) (r n c : Nat) :
    (openedMux s r n c).aquant = 0 := rfl
@[simp] theorem openedMux_aspect (s : State) (r n c : Nat) :
    (openedMux s r n c).aspect = BitVec.ofNat 3 c := rfl
@[simp] theorem openedMux_recdt (s : State) (r n c : Nat) :
    (openedMux s r n c).recdt = defaultDate := rfl
@[simp] theorem openedMux_err (s : State) (r n c : Nat) :
    (openedMux s r n c).err = 0 := rfl
@[simp] theorem openedMux_vpend (s : State) (r n c : Nat) :
    (openedMux s r n c).vpend = false := rfl
@[simp] theorem openedMux_vovr (s : State) (r n c : Nat) :
    (openedMux s r n c).vovr = false := rfl
@[simp] theorem openedMux_aovf (s : State) (r n c : Nat) :
    (openedMux s r n c).aovf = false := rfl
@[simp] theorem openedMux_vbuf (s : State) (r n c : Nat) :
    (openedMux s r n c).vbuf = [] := rfl
@[simp] theorem openedMux_framebuf (s : State) (r n c : Nat) :
    (openedMux s r n c).framebuf = [] := rfl
@[simp] theorem openedMux_fifo0 (s : State) (r n c : Nat) :
    (openedMux s r n c).fifo0 = [] := rfl
@[simp] theorem openedMux_fifo1 (s : State) (r n c : Nat) :
    (openedMux s r n c).fifo1 = [] := rfl
@[simp] theorem openedMux_opc (s : State) (r n c : Nat) :
    (openedMux s r n c).opc = s.opc := rfl
@[simp] theorem openedMux_opA (s : State) (r n c : Nat) :
    (openedMux s r n c).opA = s.opA := rfl
@[simp] theorem openedMux_opB (s : State) (r n c : Nat) :
    (openedMux s r n c).opB = s.opB := rfl
@[simp] theorem openedMux_len (s : State) (r n c : Nat) :
    (openedMux s r n c).len = s.len := rfl
@[simp] theorem openedMux_pay (s : State) (r n c : Nat) :
    (openedMux s r n c).pay = s.pay := rfl
@[simp] theorem openedMux_response (s : State) (r n c : Nat) :
    (openedMux s r n c).response = s.response := rfl
@[simp] theorem openedMux_inbox (s : State) (r n c : Nat) :
    (openedMux s r n c).inbox = s.inbox := rfl

/-! ### `flagsOnPushVideo` -/

@[simp] theorem flagsOnPushVideo_mode (s : State) :
    (flagsOnPushVideo s).mode = s.mode := rfl
@[simp] theorem flagsOnPushVideo_profile (s : State) :
    (flagsOnPushVideo s).profile = s.profile := rfl
@[simp] theorem flagsOnPushVideo_pvalid (s : State) :
    (flagsOnPushVideo s).pvalid = s.pvalid := rfl
@[simp] theorem flagsOnPushVideo_frames (s : State) :
    (flagsOnPushVideo s).frames = s.frames := rfl
@[simp] theorem flagsOnPushVideo_mstate (s : State) :
    (flagsOnPushVideo s).mstate = s.mstate := rfl
@[simp] theorem flagsOnPushVideo_abytes (s : State) :
    (flagsOnPushVideo s).abytes = s.abytes := rfl
@[simp] theorem flagsOnPushVideo_naudio (s : State) :
    (flagsOnPushVideo s).naudio = s.naudio := rfl
@[simp] theorem flagsOnPushVideo_afreq (s : State) :
    (flagsOnPushVideo s).afreq = s.afreq := rfl
@[simp] theorem flagsOnPushVideo_aquant (s : State) :
    (flagsOnPushVideo s).aquant = s.aquant := rfl
@[simp] theorem flagsOnPushVideo_aspect (s : State) :
    (flagsOnPushVideo s).aspect = s.aspect := rfl
@[simp] theorem flagsOnPushVideo_recdt (s : State) :
    (flagsOnPushVideo s).recdt = s.recdt := rfl
@[simp] theorem flagsOnPushVideo_err (s : State) :
    (flagsOnPushVideo s).err = s.err := rfl
@[simp] theorem flagsOnPushVideo_vpend (s : State) :
    (flagsOnPushVideo s).vpend = true := rfl
@[simp] theorem flagsOnPushVideo_vovr (s : State) :
    (flagsOnPushVideo s).vovr = (s.vovr || s.vpend) := rfl
@[simp] theorem flagsOnPushVideo_aovf (s : State) :
    (flagsOnPushVideo s).aovf = s.aovf := rfl
@[simp] theorem flagsOnPushVideo_vbuf (s : State) :
    (flagsOnPushVideo s).vbuf = s.vbuf := rfl
@[simp] theorem flagsOnPushVideo_framebuf (s : State) :
    (flagsOnPushVideo s).framebuf = s.framebuf := rfl
@[simp] theorem flagsOnPushVideo_fifo0 (s : State) :
    (flagsOnPushVideo s).fifo0 = s.fifo0 := rfl
@[simp] theorem flagsOnPushVideo_fifo1 (s : State) :
    (flagsOnPushVideo s).fifo1 = s.fifo1 := rfl
@[simp] theorem flagsOnPushVideo_opc (s : State) :
    (flagsOnPushVideo s).opc = s.opc := rfl
@[simp] theorem flagsOnPushVideo_opA (s : State) :
    (flagsOnPushVideo s).opA = s.opA := rfl
@[simp] theorem flagsOnPushVideo_opB (s : State) :
    (flagsOnPushVideo s).opB = s.opB := rfl
@[simp] theorem flagsOnPushVideo_len (s : State) :
    (flagsOnPushVideo s).len = s.len := rfl
@[simp] theorem flagsOnPushVideo_pay (s : State) :
    (flagsOnPushVideo s).pay = s.pay := rfl
@[simp] theorem flagsOnPushVideo_response (s : State) :
    (flagsOnPushVideo s).response = s.response := rfl
@[simp] theorem flagsOnPushVideo_inbox (s : State) :
    (flagsOnPushVideo s).inbox = s.inbox := rfl

/-! ### `flagsOnFifoFull` -/

@[simp] theorem flagsOnFifoFull_mode (s : State) :
    (flagsOnFifoFull s).mode = s.mode := rfl
@[simp] theorem flagsOnFifoFull_profile (s : State) :
    (flagsOnFifoFull s).profile = s.profile := rfl
@[simp] theorem flagsOnFifoFull_pvalid (s : State) :
    (flagsOnFifoFull s).pvalid = s.pvalid := rfl
@[simp] theorem flagsOnFifoFull_frames (s : State) :
    (flagsOnFifoFull s).frames = s.frames := rfl
@[simp] theorem flagsOnFifoFull_mstate (s : State) :
    (flagsOnFifoFull s).mstate = s.mstate := rfl
@[simp] theorem flagsOnFifoFull_abytes (s : State) :
    (flagsOnFifoFull s).abytes = s.abytes := rfl
@[simp] theorem flagsOnFifoFull_naudio (s : State) :
    (flagsOnFifoFull s).naudio = s.naudio := rfl
@[simp] theorem flagsOnFifoFull_afreq (s : State) :
    (flagsOnFifoFull s).afreq = s.afreq := rfl
@[simp] theorem flagsOnFifoFull_aquant (s : State) :
    (flagsOnFifoFull s).aquant = s.aquant := rfl
@[simp] theorem flagsOnFifoFull_aspect (s : State) :
    (flagsOnFifoFull s).aspect = s.aspect := rfl
@[simp] theorem flagsOnFifoFull_recdt (s : State) :
    (flagsOnFifoFull s).recdt = s.recdt := rfl
@[simp] theorem flagsOnFifoFull_err (s : State) :
    (flagsOnFifoFull s).err = s.err := rfl
@[simp] theorem flagsOnFifoFull_vpend (s : State) :
    (flagsOnFifoFull s).vpend = s.vpend := rfl
@[simp] theorem flagsOnFifoFull_vovr (s : State) :
    (flagsOnFifoFull s).vovr = s.vovr := rfl
@[simp] theorem flagsOnFifoFull_aovf (s : State) :
    (flagsOnFifoFull s).aovf = true := rfl
@[simp] theorem flagsOnFifoFull_vbuf (s : State) :
    (flagsOnFifoFull s).vbuf = s.vbuf := rfl
@[simp] theorem flagsOnFifoFull_framebuf (s : State) :
    (flagsOnFifoFull s).framebuf = s.framebuf := rfl
@[simp] theorem flagsOnFifoFull_fifo0 (s : State) :
    (flagsOnFifoFull s).fifo0 = s.fifo0 := rfl
@[simp] theorem flagsOnFifoFull_fifo1 (s : State) :
    (flagsOnFifoFull s).fifo1 = s.fifo1 := rfl
@[simp] theorem flagsOnFifoFull_opc (s : State) :
    (flagsOnFifoFull s).opc = s.opc := rfl
@[simp] theorem flagsOnFifoFull_opA (s : State) :
    (flagsOnFifoFull s).opA = s.opA := rfl
@[simp] theorem flagsOnFifoFull_opB (s : State) :
    (flagsOnFifoFull s).opB = s.opB := rfl
@[simp] theorem flagsOnFifoFull_len (s : State) :
    (flagsOnFifoFull s).len = s.len := rfl
@[simp] theorem flagsOnFifoFull_pay (s : State) :
    (flagsOnFifoFull s).pay = s.pay := rfl
@[simp] theorem flagsOnFifoFull_response (s : State) :
    (flagsOnFifoFull s).response = s.response := rfl
@[simp] theorem flagsOnFifoFull_inbox (s : State) :
    (flagsOnFifoFull s).inbox = s.inbox := rfl

/-! ### `fifoWrite` -/

@[simp] theorem fifoWrite_mode (s : State) (i : Nat) (x : List Byte) :
    (fifoWrite s i x).mode = s.mode := by unfold fifoWrite; split <;> rfl
@[simp] theorem fifoWrite_profile (s : State) (i : Nat) (x : List Byte) :
    (fifoWrite s i x).profile = s.profile := by unfold fifoWrite; split <;> rfl
@[simp] theorem fifoWrite_pvalid (s : State) (i : Nat) (x : List Byte) :
    (fifoWrite s i x).pvalid = s.pvalid := by unfold fifoWrite; split <;> rfl
@[simp] theorem fifoWrite_frames (s : State) (i : Nat) (x : List Byte) :
    (fifoWrite s i x).frames = s.frames := by unfold fifoWrite; split <;> rfl
@[simp] theorem fifoWrite_mstate (s : State) (i : Nat) (x : List Byte) :
    (fifoWrite s i x).mstate = s.mstate := by unfold fifoWrite; split <;> rfl
@[simp] theorem fifoWrite_abytes (s : State) (i : Nat) (x : List Byte) :
    (fifoWrite s i x).abytes = s.abytes := by unfold fifoWrite; split <;> rfl
@[simp] theorem fifoWrite_naudio (s : State) (i : Nat) (x : List Byte) :
    (fifoWrite s i x).naudio = s.naudio := by unfold fifoWrite; split <;> rfl
@[simp] theorem fifoWrite_afreq (s : State) (i : Nat) (x : List Byte) :
    (fifoWrite s i x).afreq = s.afreq := by unfold fifoWrite; split <;> rfl
@[simp] theorem fifoWrite_aquant (s : State) (i : Nat) (x : List Byte) :
    (fifoWrite s i x).aquant = s.aquant := by unfold fifoWrite; split <;> rfl
@[simp] theorem fifoWrite_aspect (s : State) (i : Nat) (x : List Byte) :
    (fifoWrite s i x).aspect = s.aspect := by unfold fifoWrite; split <;> rfl
@[simp] theorem fifoWrite_recdt (s : State) (i : Nat) (x : List Byte) :
    (fifoWrite s i x).recdt = s.recdt := by unfold fifoWrite; split <;> rfl
@[simp] theorem fifoWrite_err (s : State) (i : Nat) (x : List Byte) :
    (fifoWrite s i x).err = s.err := by unfold fifoWrite; split <;> rfl
@[simp] theorem fifoWrite_vpend (s : State) (i : Nat) (x : List Byte) :
    (fifoWrite s i x).vpend = s.vpend := by unfold fifoWrite; split <;> rfl
@[simp] theorem fifoWrite_vovr (s : State) (i : Nat) (x : List Byte) :
    (fifoWrite s i x).vovr = s.vovr := by unfold fifoWrite; split <;> rfl
@[simp] theorem fifoWrite_aovf (s : State) (i : Nat) (x : List Byte) :
    (fifoWrite s i x).aovf = s.aovf := by unfold fifoWrite; split <;> rfl
@[simp] theorem fifoWrite_vbuf (s : State) (i : Nat) (x : List Byte) :
    (fifoWrite s i x).vbuf = s.vbuf := by unfold fifoWrite; split <;> rfl
@[simp] theorem fifoWrite_framebuf (s : State) (i : Nat) (x : List Byte) :
    (fifoWrite s i x).framebuf = s.framebuf := by unfold fifoWrite; split <;> rfl
@[simp] theorem fifoWrite_fifo0 (s : State) (i : Nat) (x : List Byte) :
    (fifoWrite s i x).fifo0 = if i = 0 then s.fifo0 ++ x else s.fifo0 := by unfold fifoWrite; split <;> rfl
@[simp] theorem fifoWrite_fifo1 (s : State) (i : Nat) (x : List Byte) :
    (fifoWrite s i x).fifo1 = if i = 0 then s.fifo1 else s.fifo1 ++ x := by unfold fifoWrite; split <;> rfl
@[simp] theorem fifoWrite_opc (s : State) (i : Nat) (x : List Byte) :
    (fifoWrite s i x).opc = s.opc := by unfold fifoWrite; split <;> rfl
@[simp] theorem fifoWrite_opA (s : State) (i : Nat) (x : List Byte) :
    (fifoWrite s i x).opA = s.opA := by unfold fifoWrite; split <;> rfl
@[simp] theorem fifoWrite_opB (s : State) (i : Nat) (x : List Byte) :
    (fifoWrite s i x).opB = s.opB := by unfold fifoWrite; split <;> rfl
@[simp] theorem fifoWrite_len (s : State) (i : Nat) (x : List Byte) :
    (fifoWrite s i x).len = s.len := by unfold fifoWrite; split <;> rfl
@[simp] theorem fifoWrite_pay (s : State) (i : Nat) (x : List Byte) :
    (fifoWrite s i x).pay = s.pay := by unfold fifoWrite; split <;> rfl
@[simp] theorem fifoWrite_response (s : State) (i : Nat) (x : List Byte) :
    (fifoWrite s i x).response = s.response := by unfold fifoWrite; split <;> rfl
@[simp] theorem fifoWrite_inbox (s : State) (i : Nat) (x : List Byte) :
    (fifoWrite s i x).inbox = s.inbox := by unfold fifoWrite; split <;> rfl

/-! ### `fifosDrop` -/

@[simp] theorem fifosDrop_mode (s : State) (k n : Nat) :
    (fifosDrop s k n).mode = s.mode := rfl
@[simp] theorem fifosDrop_profile (s : State) (k n : Nat) :
    (fifosDrop s k n).profile = s.profile := rfl
@[simp] theorem fifosDrop_pvalid (s : State) (k n : Nat) :
    (fifosDrop s k n).pvalid = s.pvalid := rfl
@[simp] theorem fifosDrop_frames (s : State) (k n : Nat) :
    (fifosDrop s k n).frames = s.frames := rfl
@[simp] theorem fifosDrop_mstate (s : State) (k n : Nat) :
    (fifosDrop s k n).mstate = s.mstate := rfl
@[simp] theorem fifosDrop_abytes (s : State) (k n : Nat) :
    (fifosDrop s k n).abytes = s.abytes := rfl
@[simp] theorem fifosDrop_naudio (s : State) (k n : Nat) :
    (fifosDrop s k n).naudio = s.naudio := rfl
@[simp] theorem fifosDrop_afreq (s : State) (k n : Nat) :
    (fifosDrop s k n).afreq = s.afreq := rfl
@[simp] theorem fifosDrop_aquant (s : State) (k n : Nat) :
    (fifosDrop s k n).aquant = s.aquant := rfl
@[simp] theorem fifosDrop_aspect (s : State) (k n : Nat) :
    (fifosDrop s k n).aspect = s.aspect := rfl
@[simp] theorem fifosDrop_recdt (s : State) (k n : Nat) :
    (fifosDrop s k n).recdt = s.recdt := rfl
@[simp] theorem fifosDrop_err (s : State) (k n : Nat) :
    (fifosDrop s k n).err = s.err := rfl
@[simp] theorem fifosDrop_vpend (s : State) (k n : Nat) :
    (fifosDrop s k n).vpend = s.vpend := rfl
@[simp] theorem fifosDrop_vovr (s : State) (k n : Nat) :
    (fifosDrop s k n).vovr = s.vovr := rfl
@[simp] theorem fifosDrop_aovf (s : State) (k n : Nat) :
    (fifosDrop s k n).aovf = s.aovf := rfl
@[simp] theorem fifosDrop_vbuf (s : State) (k n : Nat) :
    (fifosDrop s k n).vbuf = s.vbuf := rfl
@[simp] theorem fifosDrop_framebuf (s : State) (k n : Nat) :
    (fifosDrop s k n).framebuf = s.framebuf := rfl
@[simp] theorem fifosDrop_fifo0 (s : State) (k n : Nat) :
    (fifosDrop s k n).fifo0 = if 0 < k then s.fifo0.drop n else s.fifo0 := rfl
@[simp] theorem fifosDrop_fifo1 (s : State) (k n : Nat) :
    (fifosDrop s k n).fifo1 = if 1 < k then s.fifo1.drop n else s.fifo1 := rfl
@[simp] theorem fifosDrop_opc (s : State) (k n : Nat) :
    (fifosDrop s k n).opc = s.opc := rfl
@[simp] theorem fifosDrop_opA (s : State) (k n : Nat) :
    (fifosDrop s k n).opA = s.opA := rfl
@[simp] theorem fifosDrop_opB (s : State) (k n : Nat) :
    (fifosDrop s k n).opB = s.opB := rfl
@[simp] theorem fifosDrop_len (s : State) (k n : Nat) :
    (fifosDrop s k n).len = s.len := rfl
@[simp] theorem fifosDrop_pay (s : State) (k n : Nat) :
    (fifosDrop s k n).pay = s.pay := rfl
@[simp] theorem fifosDrop_response (s : State) (k n : Nat) :
    (fifosDrop s k n).response = s.response := rfl
@[simp] theorem fifosDrop_inbox (s : State) (k n : Nat) :
    (fifosDrop s k n).inbox = s.inbox := rfl

/-! ### `assembledState` -/

@[simp] theorem assembledState_mode (s : State) (F : Buffer) :
    (assembledState s F).mode = s.mode := rfl
@[simp] theorem assembledState_profile (s : State) (F : Buffer) :
    (assembledState s F).profile = s.profile := rfl
@[simp] theorem assembledState_pvalid (s : State) (F : Buffer) :
    (assembledState s F).pvalid = s.pvalid := rfl
@[simp] theorem assembledState_frames (s : State) (F : Buffer) :
    (assembledState s F).frames = s.frames := rfl
@[simp] theorem assembledState_mstate (s : State) (F : Buffer) :
    (assembledState s F).mstate = .ready := rfl
@[simp] theorem assembledState_abytes (s : State) (F : Buffer) :
    (assembledState s F).abytes = s.abytes := rfl
@[simp] theorem assembledState_naudio (s : State) (F : Buffer) :
    (assembledState s F).naudio = s.naudio := rfl
@[simp] theorem assembledState_afreq (s : State) (F : Buffer) :
    (assembledState s F).afreq = s.afreq := rfl
@[simp] theorem assembledState_aquant (s : State) (F : Buffer) :
    (assembledState s F).aquant = s.aquant := rfl
@[simp] theorem assembledState_aspect (s : State) (F : Buffer) :
    (assembledState s F).aspect = s.aspect := rfl
@[simp] theorem assembledState_recdt (s : State) (F : Buffer) :
    (assembledState s F).recdt = s.recdt := rfl
@[simp] theorem assembledState_err (s : State) (F : Buffer) :
    (assembledState s F).err = s.err := rfl
@[simp] theorem assembledState_vpend (s : State) (F : Buffer) :
    (assembledState s F).vpend = false := rfl
@[simp] theorem assembledState_vovr (s : State) (F : Buffer) :
    (assembledState s F).vovr = s.vovr := rfl
@[simp] theorem assembledState_aovf (s : State) (F : Buffer) :
    (assembledState s F).aovf = s.aovf := rfl
@[simp] theorem assembledState_vbuf (s : State) (F : Buffer) :
    (assembledState s F).vbuf = [] := rfl
@[simp] theorem assembledState_framebuf (s : State) (F : Buffer) :
    (assembledState s F).framebuf = Memory.ofBytes F.toList := rfl
@[simp] theorem assembledState_fifo0 (s : State) (F : Buffer) :
    (assembledState s F).fifo0 = if 0 < s.naudio.toNat then s.fifo0.drop (req (sessionProfile s) s.frames.toNat) else s.fifo0 := rfl
@[simp] theorem assembledState_fifo1 (s : State) (F : Buffer) :
    (assembledState s F).fifo1 = if 1 < s.naudio.toNat then s.fifo1.drop (req (sessionProfile s) s.frames.toNat) else s.fifo1 := rfl
@[simp] theorem assembledState_opc (s : State) (F : Buffer) :
    (assembledState s F).opc = s.opc := rfl
@[simp] theorem assembledState_opA (s : State) (F : Buffer) :
    (assembledState s F).opA = s.opA := rfl
@[simp] theorem assembledState_opB (s : State) (F : Buffer) :
    (assembledState s F).opB = s.opB := rfl
@[simp] theorem assembledState_len (s : State) (F : Buffer) :
    (assembledState s F).len = s.len := rfl
@[simp] theorem assembledState_pay (s : State) (F : Buffer) :
    (assembledState s F).pay = s.pay := rfl
@[simp] theorem assembledState_response (s : State) (F : Buffer) :
    (assembledState s F).response = s.response := rfl
@[simp] theorem assembledState_inbox (s : State) (F : Buffer) :
    (assembledState s F).inbox = s.inbox := rfl

/-! ### `leaveEmitted` -/

@[simp] theorem leaveEmitted_mode (s : State) :
    (leaveEmitted s).mode = s.mode := by unfold leaveEmitted; split <;> rfl
@[simp] theorem leaveEmitted_profile (s : State) :
    (leaveEmitted s).profile = s.profile := by unfold leaveEmitted; split <;> rfl
@[simp] theorem leaveEmitted_pvalid (s : State) :
    (leaveEmitted s).pvalid = s.pvalid := by unfold leaveEmitted; split <;> rfl
@[simp] theorem leaveEmitted_frames (s : State) :
    (leaveEmitted s).frames = s.frames := by unfold leaveEmitted; split <;> rfl
@[simp] theorem leaveEmitted_mstate (s : State) :
    (leaveEmitted s).mstate = if s.mstate = .emitted then .accumulating else s.mstate := by unfold leaveEmitted; split <;> rfl
@[simp] theorem leaveEmitted_abytes (s : State) :
    (leaveEmitted s).abytes = s.abytes := by unfold leaveEmitted; split <;> rfl
@[simp] theorem leaveEmitted_naudio (s : State) :
    (leaveEmitted s).naudio = s.naudio := by unfold leaveEmitted; split <;> rfl
@[simp] theorem leaveEmitted_afreq (s : State) :
    (leaveEmitted s).afreq = s.afreq := by unfold leaveEmitted; split <;> rfl
@[simp] theorem leaveEmitted_aquant (s : State) :
    (leaveEmitted s).aquant = s.aquant := by unfold leaveEmitted; split <;> rfl
@[simp] theorem leaveEmitted_aspect (s : State) :
    (leaveEmitted s).aspect = s.aspect := by unfold leaveEmitted; split <;> rfl
@[simp] theorem leaveEmitted_recdt (s : State) :
    (leaveEmitted s).recdt = s.recdt := by unfold leaveEmitted; split <;> rfl
@[simp] theorem leaveEmitted_err (s : State) :
    (leaveEmitted s).err = s.err := by unfold leaveEmitted; split <;> rfl
@[simp] theorem leaveEmitted_vpend (s : State) :
    (leaveEmitted s).vpend = s.vpend := by unfold leaveEmitted; split <;> rfl
@[simp] theorem leaveEmitted_vovr (s : State) :
    (leaveEmitted s).vovr = s.vovr := by unfold leaveEmitted; split <;> rfl
@[simp] theorem leaveEmitted_aovf (s : State) :
    (leaveEmitted s).aovf = s.aovf := by unfold leaveEmitted; split <;> rfl
@[simp] theorem leaveEmitted_vbuf (s : State) :
    (leaveEmitted s).vbuf = s.vbuf := by unfold leaveEmitted; split <;> rfl
@[simp] theorem leaveEmitted_framebuf (s : State) :
    (leaveEmitted s).framebuf = if s.mstate = .emitted then [] else s.framebuf := by unfold leaveEmitted; split <;> rfl
@[simp] theorem leaveEmitted_fifo0 (s : State) :
    (leaveEmitted s).fifo0 = s.fifo0 := by unfold leaveEmitted; split <;> rfl
@[simp] theorem leaveEmitted_fifo1 (s : State) :
    (leaveEmitted s).fifo1 = s.fifo1 := by unfold leaveEmitted; split <;> rfl
@[simp] theorem leaveEmitted_opc (s : State) :
    (leaveEmitted s).opc = s.opc := by unfold leaveEmitted; split <;> rfl
@[simp] theorem leaveEmitted_opA (s : State) :
    (leaveEmitted s).opA = s.opA := by unfold leaveEmitted; split <;> rfl
@[simp] theorem leaveEmitted_opB (s : State) :
    (leaveEmitted s).opB = s.opB := by unfold leaveEmitted; split <;> rfl
@[simp] theorem leaveEmitted_len (s : State) :
    (leaveEmitted s).len = s.len := by unfold leaveEmitted; split <;> rfl
@[simp] theorem leaveEmitted_pay (s : State) :
    (leaveEmitted s).pay = s.pay := by unfold leaveEmitted; split <;> rfl
@[simp] theorem leaveEmitted_response (s : State) :
    (leaveEmitted s).response = s.response := by unfold leaveEmitted; split <;> rfl
@[simp] theorem leaveEmitted_inbox (s : State) :
    (leaveEmitted s).inbox = s.inbox := by unfold leaveEmitted; split <;> rfl

/-! ### `frameFed` -/

@[simp] theorem frameFed_mode (s : State) (r : Nat) (ap : AudioParams) :
    (frameFed s r ap).mode = s.mode := rfl
@[simp] theorem frameFed_profile (s : State) (r : Nat) (ap : AudioParams) :
    (frameFed s r ap).profile = BitVec.ofNat 2 r := rfl
@[simp] theorem frameFed_pvalid (s : State) (r : Nat) (ap : AudioParams) :
    (frameFed s r ap).pvalid = true := rfl
@[simp] theorem frameFed_frames (s : State) (r : Nat) (ap : AudioParams) :
    (frameFed s r ap).frames = s.frames + 1 := counter_add s.frames 1
@[simp] theorem frameFed_mstate (s : State) (r : Nat) (ap : AudioParams) :
    (frameFed s r ap).mstate = s.mstate := rfl
@[simp] theorem frameFed_abytes (s : State) (r : Nat) (ap : AudioParams) :
    (frameFed s r ap).abytes = s.abytes + BitVec.ofNat 64 ap.size := counter_add s.abytes ap.size
@[simp] theorem frameFed_naudio (s : State) (r : Nat) (ap : AudioParams) :
    (frameFed s r ap).naudio = BitVec.ofNat 2 ap.ns := rfl
@[simp] theorem frameFed_afreq (s : State) (r : Nat) (ap : AudioParams) :
    (frameFed s r ap).afreq = BitVec.ofNat 3 ap.smp := rfl
@[simp] theorem frameFed_aquant (s : State) (r : Nat) (ap : AudioParams) :
    (frameFed s r ap).aquant = BitVec.ofNat 3 ap.qu := rfl
@[simp] theorem frameFed_aspect (s : State) (r : Nat) (ap : AudioParams) :
    (frameFed s r ap).aspect = s.aspect := rfl
@[simp] theorem frameFed_recdt (s : State) (r : Nat) (ap : AudioParams) :
    (frameFed s r ap).recdt = s.recdt := rfl
@[simp] theorem frameFed_err (s : State) (r : Nat) (ap : AudioParams) :
    (frameFed s r ap).err = s.err := rfl
@[simp] theorem frameFed_vpend (s : State) (r : Nat) (ap : AudioParams) :
    (frameFed s r ap).vpend = s.vpend := rfl
@[simp] theorem frameFed_vovr (s : State) (r : Nat) (ap : AudioParams) :
    (frameFed s r ap).vovr = s.vovr := rfl
@[simp] theorem frameFed_aovf (s : State) (r : Nat) (ap : AudioParams) :
    (frameFed s r ap).aovf = s.aovf := rfl
@[simp] theorem frameFed_vbuf (s : State) (r : Nat) (ap : AudioParams) :
    (frameFed s r ap).vbuf = s.vbuf := rfl
@[simp] theorem frameFed_framebuf (s : State) (r : Nat) (ap : AudioParams) :
    (frameFed s r ap).framebuf = s.framebuf := rfl
@[simp] theorem frameFed_fifo0 (s : State) (r : Nat) (ap : AudioParams) :
    (frameFed s r ap).fifo0 = s.fifo0 := rfl
@[simp] theorem frameFed_fifo1 (s : State) (r : Nat) (ap : AudioParams) :
    (frameFed s r ap).fifo1 = s.fifo1 := rfl
@[simp] theorem frameFed_opc (s : State) (r : Nat) (ap : AudioParams) :
    (frameFed s r ap).opc = s.opc := rfl
@[simp] theorem frameFed_opA (s : State) (r : Nat) (ap : AudioParams) :
    (frameFed s r ap).opA = s.opA := rfl
@[simp] theorem frameFed_opB (s : State) (r : Nat) (ap : AudioParams) :
    (frameFed s r ap).opB = s.opB := rfl
@[simp] theorem frameFed_len (s : State) (r : Nat) (ap : AudioParams) :
    (frameFed s r ap).len = s.len := rfl
@[simp] theorem frameFed_pay (s : State) (r : Nat) (ap : AudioParams) :
    (frameFed s r ap).pay = s.pay := rfl
@[simp] theorem frameFed_response (s : State) (r : Nat) (ap : AudioParams) :
    (frameFed s r ap).response = s.response := rfl
@[simp] theorem frameFed_inbox (s : State) (r : Nat) (ap : AudioParams) :
    (frameFed s r ap).inbox = s.inbox := rfl

/-! ### `hardReset` -/

@[simp] theorem hardReset_mode (s : State) :
    (hardReset s).mode = .closed := rfl
@[simp] theorem hardReset_profile (s : State) :
    (hardReset s).profile = 0 := rfl
@[simp] theorem hardReset_pvalid (s : State) :
    (hardReset s).pvalid = false := rfl
@[simp] theorem hardReset_frames (s : State) :
    (hardReset s).frames = 0 := rfl
@[simp] theorem hardReset_mstate (s : State) :
    (hardReset s).mstate = .accumulating := rfl
@[simp] theorem hardReset_abytes (s : State) :
    (hardReset s).abytes = 0 := rfl
@[simp] theorem hardReset_naudio (s : State) :
    (hardReset s).naudio = 0 := rfl
@[simp] theorem hardReset_afreq (s : State) :
    (hardReset s).afreq = 0 := rfl
@[simp] theorem hardReset_aquant (s : State) :
    (hardReset s).aquant = 0 := rfl
@[simp] theorem hardReset_aspect (s : State) :
    (hardReset s).aspect = 0 := rfl
@[simp] theorem hardReset_recdt (s : State) :
    (hardReset s).recdt = defaultDate := rfl
@[simp] theorem hardReset_err (s : State) :
    (hardReset s).err = 0 := rfl
@[simp] theorem hardReset_vpend (s : State) :
    (hardReset s).vpend = false := rfl
@[simp] theorem hardReset_vovr (s : State) :
    (hardReset s).vovr = false := rfl
@[simp] theorem hardReset_aovf (s : State) :
    (hardReset s).aovf = false := rfl
@[simp] theorem hardReset_vbuf (s : State) :
    (hardReset s).vbuf = [] := rfl
@[simp] theorem hardReset_framebuf (s : State) :
    (hardReset s).framebuf = [] := rfl
@[simp] theorem hardReset_fifo0 (s : State) :
    (hardReset s).fifo0 = [] := rfl
@[simp] theorem hardReset_fifo1 (s : State) :
    (hardReset s).fifo1 = [] := rfl
@[simp] theorem hardReset_opc (s : State) :
    (hardReset s).opc = 0 := rfl
@[simp] theorem hardReset_opA (s : State) :
    (hardReset s).opA = 0 := rfl
@[simp] theorem hardReset_opB (s : State) :
    (hardReset s).opB = 0 := rfl
@[simp] theorem hardReset_len (s : State) :
    (hardReset s).len = 0 := rfl
@[simp] theorem hardReset_pay (s : State) :
    (hardReset s).pay = [] := rfl
@[simp] theorem hardReset_response (s : State) :
    (hardReset s).response = none := rfl
@[simp] theorem hardReset_inbox (s : State) :
    (hardReset s).inbox = s.inbox := rfl

end Sys2Proof.Machine
end

