-- ==== Sys2Proof/Laws/Ops.lean ====
section
/-! SUPPORT. One lemma per shared operation that says once what it can do. -/

namespace Sys2Proof.Machine

/-! ### The profiles -/

/-- The four profiles, by id (R41). -/
theorem profile_cases {r : Nat} {p : Profile} (h : cfg.prof[r]? = some p) :
    (r = 0 ∧ p = profile10 1 0) ∨ (r = 1 ∧ p = profile12 1 0) ∨ (r = 2 ∧ p = profile10 2 4) ∨
      (r = 3 ∧ p = profile12 2 4) := by
  match r, h with
  | 0, h => exact .inl ⟨rfl, (Option.some.inj h).symm⟩
  | 1, h => exact .inr (.inl ⟨rfl, (Option.some.inj h).symm⟩)
  | 2, h => exact .inr (.inr (.inl ⟨rfl, (Option.some.inj h).symm⟩))
  | 3, h => exact .inr (.inr (.inr ⟨rfl, (Option.some.inj h).symm⟩))
  | n + 4, h => simp [cfg, profiles] at h

/-- A profile of the table has an id below 4. -/
theorem profile_of_mem {p : Profile} (h : p ∈ cfg.prof) : ∃ r, r < 4 ∧ cfg.prof[r]? = some p := by
  simp only [cfg, profiles, List.mem_cons, List.not_mem_nil, or_false] at h
  rcases h with rfl | rfl | rfl | rfl
  · exact ⟨0, by decide, rfl⟩
  · exact ⟨1, by decide, rfl⟩
  · exact ⟨2, by decide, rfl⟩
  · exact ⟨3, by decide, rfl⟩

/-- `PROFILE` always names a profile of the table. -/
theorem sessionProfile_get (s : State) : cfg.prof[s.profile.toNat]? = some (sessionProfile s) := by
  have h : s.profile.toNat < cfg.prof.length := s.profile.isLt
  simp [sessionProfile, List.getElem?_eq_getElem h]

theorem sessionProfile_congr {s t : State} (h : t.profile = s.profile) : sessionProfile t = sessionProfile s := by
  simp [sessionProfile, h]

theorem profileAt_byte {r : Nat} {p : Profile} (h : cfg.prof[r]? = some p) : profileAt (byte r) = some p := by
  rcases profile_cases h with ⟨rfl, rfl⟩ | ⟨rfl, rfl⟩ | ⟨rfl, rfl⟩ | ⟨rfl, rfl⟩ <;> rfl

/-- `BadOperand` on `A` comes from a profile id that is not below 4. -/
theorem profileAt_eq_none {a : Byte} : profileAt a = none ↔ 4 ≤ a.toNat := by
  simp [profileAt, cfg, profiles]

/-! ### How a command ends -/

theorem pureCommand_ok (v : Reply) (s : State) : pureCommand (.ok v) s = .next (s.respond v.ra v.rpay) := rfl

theorem pureCommand_error (k : Kind) (s : State) : pureCommand (.error k) s = .next (s.raise k) := rfl

/-- Everything a session command can do: answer OK, raise a condition, or fault. -/
theorem sessionCommand_cases {s t : State} {ra : Byte} {r : Except Stop State}
    (h : sessionCommand s ra r = .next t) :
    (∃ u, r = .ok u ∧ t = u.respond ra []) ∨ (∃ k, r = .error (.raised k) ∧ t = s.raise k) := by
  match r, h with
  | .ok u, h => exact .inl ⟨u, rfl, (Host.Outcome.next.inj h).symm⟩
  | .error (.raised k), h => exact .inr ⟨k, rfl, (Host.Outcome.next.inj h).symm⟩
  | .error (.faulted f), h => cases h

theorem modeRefusal_none {need : Mode} {s : State} (hn : need ≠ .failed) :
    modeRefusal need s = none ↔ s.mode = need := by
  unfold modeRefusal
  cases h : s.mode <;> cases need <;> simp_all

theorem modeRefusal_self {need : Mode} {s : State} (h : s.mode = need) (hn : need ≠ .failed) :
    modeRefusal need s = none := (modeRefusal_none hn).2 h

/-- A mode refusal is SessionFailed in FAILED and BadMode elsewhere (R329). -/
theorem modeRefusal_some {need : Mode} {s : State} {k : Kind} (h : modeRefusal need s = some k) :
    k = if s.mode = .failed then .sessionFailed else .badMode := by
  unfold modeRefusal at h
  split at h
  · rename_i hf; simp_all
  · split at h <;> simp_all

/-! ### Frames -/

@[simp] theorem blankFrame_size (p : Profile) : (blankFrame p).size = p.frameSize := by simp [blankFrame]

/-- A skeleton has the frame size of its profile (R61). -/
theorem formatFrame_size {p : Profile} {x : Ctx} {F : Buffer} (h : formatFrame p x = .ok F) :
    F.size = p.frameSize := by
  unfold formatFrame at h
  split at h
  · cases h; simp
  · cases h

/-- The only condition `FormatFrame` raises is FieldRange (R178). -/
theorem formatFrame_error {p : Profile} {x : Ctx} {k : Kind} (h : formatFrame p x = .error k) :
    k = .fieldRange := by
  unfold formatFrame at h
  split at h <;> cases h
  rfl

@[simp] theorem injectVideo_size (p : Profile) (F : Buffer) (V : List Byte) :
    (injectVideo p F V).size = F.size := by simp [injectVideo]

@[simp] theorem shuffle16_size (p : Profile) (F : Buffer) (c : Nat) (P : Buffer) (n : Nat) :
    (shuffle16 p F c P n).size = F.size := by simp [shuffle16]

@[simp] theorem deshuffle16_size (p : Profile) (F : Buffer) (c n : Nat) : (deshuffle16 p F c n).size = n := by
  simp [deshuffle16]

@[simp] theorem deshuffle12_size (p : Profile) (F : Buffer) (i n : Nat) : (deshuffle12 p F i n).size = n := by
  simp [deshuffle12]

/-- A frame assembled from a video unit has the frame size of the session's profile. -/
theorem assembledFrame_size {s : State} {V : List Byte} {F : Buffer} (h : assembledFrame s V = .ok F) :
    F.size = (sessionProfile s).frameSize := by
  unfold assembledFrame at h
  cases hf : formatFrame (sessionProfile s) (sessionCtx s) with
  | error k => simp [hf] at h
  | ok F0 =>
    simp only [hf, Except.ok.injEq] at h
    have hfold : ∀ (l : List Nat) (G : Buffer),
        (l.foldl (fun F i => shuffle16 (sessionProfile s) F i
          ((fifoOf s i).take (req (sessionProfile s) s.frames.toNat)).toArray
          (req (sessionProfile s) s.frames.toNat)) G).size = G.size := by
      intro l
      induction l with
      | nil => intro G; rfl
      | cons i l ih => intro G; simp [ih]
    rw [← h, hfold]
    simp [formatFrame_size hf]

/-- Everything `Evaluate` can do (R266): nothing, or assemble a frame from the pending unit; it fails only when
VBUF holds no whole unit or a pack does not fit. -/
theorem evaluate_cases (s : State) :
    (frameReady s = false ∧ evaluate s = .ok s) ∨
    (frameReady s = true ∧ Memory.readBytes s.vbuf (videoUnit (sessionProfile s)) = none ∧
      evaluate s = .error (.faulted (.readUnspecified .vbuf))) ∨
    (frameReady s = true ∧ ∃ V, Memory.readBytes s.vbuf (videoUnit (sessionProfile s)) = some V ∧
      ((∃ k, assembledFrame s V = .error k ∧ evaluate s = .error (.raised k)) ∨
       (∃ F, assembledFrame s V = .ok F ∧ evaluate s = .ok (assembledState s F)))) := by
  unfold evaluate
  cases hr : frameReady s with
  | false => left; simp
  | true =>
    right
    simp only [if_true]
    unfold assemble
    cases hv : Memory.readBytes s.vbuf (videoUnit (sessionProfile s)) with
    | none => left; simp
    | some V =>
      right
      refine ⟨trivial, V, rfl, ?_⟩
      cases ha : assembledFrame s V with
      | error k => left; exact ⟨k, rfl, by simp [ha]⟩
      | ok F => right; exact ⟨F, rfl, by simp [ha]⟩

/-! ### Packs -/

/-- An encoded pack has five bytes and begins with its selector (R109, R118). -/
theorem encodePack_ok {k : PackKind} {dsf : Bool} {vs : List Nat} {bs : List Byte}
    (h : encodePack k dsf vs = .ok bs) :
    fieldsFit (widthsOf k) vs = true ∧ vs.length = (widthsOf k).length ∧ bs.length = 5 ∧
      payAt bs 0 = selectorOf k dsf := by
  unfold encodePack at h
  split at h
  · cases h
  · rename_i hl
    split at h
    · cases h
      exact ⟨by assumption, by simpa using hl, by simp, rfl⟩
    · cases h

/-- Fields that fit are as many as the kind has. -/
theorem fieldsFit_length {ws vs : List Nat} (h : fieldsFit ws vs = true) : vs.length = ws.length := by
  induction ws generalizing vs with
  | nil => cases vs <;> simp_all [fieldsFit]
  | cons w ws ih =>
    cases vs with
    | nil => simp [fieldsFit] at h
    | cons v vs =>
      simp only [fieldsFit, Bool.and_eq_true] at h
      simp [ih h.2]

/-- Fields that fit are encoded (R160). -/
theorem encodePack_fits {k : PackKind} {dsf : Bool} {vs : List Nat} (h : fieldsFit (widthsOf k) vs = true) :
    encodePack k dsf vs = .ok (selectorOf k dsf :: beBytes 4 (encodeBits (layout k) vs 0)) := by
  unfold encodePack
  rw [if_neg (by simp [fieldsFit_length h]), if_pos h]
  rfl

/-- A pack that is made has five bytes. -/
theorem packBytes_length {k : PackKind} {p : Profile} {x : Ctx} (h : (makePack k p x).isOk = true) :
    (packBytes k p x).length = 5 := by
  unfold packBytes
  cases hm : makePack k p x with
  | error e => simp [hm, Except.isOk, Except.toBool] at h
  | ok bs => exact (encodePack_ok hm).2.2.1

end Sys2Proof.Machine
end

