-- ==== Sys2Proof/Laws/Endings.lean ====
section
/-! SUPPORT. The endings of a command in the terms of the statements, and the operand test. -/

namespace Sys2Proof.Machine

open Sys2Proof.Safety

theorem operandsZero_iff (o : Operands) : operandsZero o = true ↔ o.a = 0 ∧ o.b = 0 := by
  simp [operandsZero]

/-- The refusal of a command that takes no `A` and no `B`. -/
theorem operandsZero_not_iff (o : Operands) : (!operandsZero o) = true ↔ o.a ≠ 0 ∨ o.b ≠ 0 := by
  rw [Bool.not_eq_true', ← Bool.not_eq_true, operandsZero_iff]
  tauto

theorem State.respond_eq (s : State) (ra : Byte) (v : List Byte) : s.respond ra v = okState s ra v := rfl

/-- Raising a condition, as a state (R320, R328, R334). -/
theorem State.raise_eq (s : State) (k : Kind) : s.raise k = endedState s (kindClass k) (kindCode k) := rfl

theorem State.raise_profileUnrecognized (s : State) : s.raise .profileUnrecognized = endedState s .error 0x01 := rfl
theorem State.raise_unsupportedQuantization (s : State) :
    s.raise .unsupportedQuantization = endedState s .error 0x02 := rfl
theorem State.raise_incompleteInput (s : State) : s.raise .incompleteInput = endedState s .incomplete 0x03 := rfl
theorem State.raise_streamTopologyInvalid (s : State) :
    s.raise .streamTopologyInvalid = endedState s .error 0x04 := rfl
theorem State.raise_badOpcode (s : State) : s.raise .badOpcode = endedState s .refused 0x10 := rfl
theorem State.raise_badMode (s : State) : s.raise .badMode = endedState s .refused 0x11 := rfl
theorem State.raise_badOperand (s : State) : s.raise .badOperand = endedState s .refused 0x12 := rfl
theorem State.raise_fieldRange (s : State) : s.raise .fieldRange = endedState s .refused 0x13 := rfl
theorem State.raise_lengthMismatch (s : State) : s.raise .lengthMismatch = endedState s .refused 0x14 := rfl
theorem State.raise_packMismatch (s : State) : s.raise .packMismatch = endedState s .refused 0x15 := rfl
theorem State.raise_fifoFull (s : State) : s.raise .fifoFull = endedState s .refused 0x16 := rfl
theorem State.raise_sessionFailed (s : State) : s.raise .sessionFailed = endedState s .refused 0x17 := rfl

/-- Only classes ERROR, INCOMPLETE and REFUSED come from raising (R102). -/
theorem reportsCondition_kindResponse (k : Kind) : reportsCondition (kindResponse k) := by
  cases k <;> simp [reportsCondition, kindResponse, kindClass]

end Sys2Proof.Machine
end

