-- ==== Sys2Proof/Laws/Sessions.lean ====
section
/-! SUPPORT. Laws of the shared operations of the sessions: which packs and skeletons are made, what OPEN_MUX and
AudioParams accept, when assembly and emission go through. -/

namespace Sys2Proof.Machine

open Sys2Proof.Safety

/-- A pack whose assembler values fit their widths is made (R178). -/
theorem makePack_ok_of_fits {k p x} (h : fieldsFit (widthsOf k) (assemblerValues k p x) = true) :
    (makePack k p x).isOk = true := by
  unfold makePack; rw [encodePack_fits h]; rfl

/-- The digits of a label stay in range (R167). -/
theorem tcLabel_lt (p : Profile) (hp : p.ltc = 30 ∨ p.ltc = 25) (n : Nat) :
    (tcLabel p n).h < 24 ∧ (tcLabel p n).m < 60 ∧ (tcLabel p n).s < 60 ∧ (tcLabel p n).f < 30 := by
  unfold tcLabel; dsimp only
  refine ⟨Nat.mod_lt _ (by decide), Nat.mod_lt _ (by decide), Nat.mod_lt _ (by decide), ?_⟩
  rcases hp with h | h <;> rw [h] <;> omega

/-- Every kind is made for a context in range; the audio source pack only at 48 kHz (R178, R170). -/
theorem makePack_isOk {p : Profile} (hp : p ∈ cfg.prof) {x : Ctx} (hd : dateInRange x.date = true)
    (ha : x.aspect ≤ 7) (hq : x.aquant ≤ 7)
    (k : PackKind) (hf : k = .audioSource → x.afreq = 0) : (makePack k p x).isOk = true := by
  apply makePack_ok_of_fits
  have hp' := hp
  simp only [cfg, profiles, List.mem_cons, List.not_mem_nil, or_false] at hp
  have hl : p.ltc = 30 ∨ p.ltc = 25 := by rcases hp with rfl | rfl | rfl | rfl <;> simp [profile10, profile12]
  have hdl : p.dsf.toNat < 2 := by cases p.dsf <;> decide
  have hdr : p.drop.toNat < 2 := by cases p.drop <;> decide
  have hv : p.vstype < 32 := by rcases hp with rfl | rfl | rfl | rfl <;> simp [profile10, profile12]
  obtain ⟨h1, h2, h3, h4⟩ := tcLabel_lt p hl x.n
  simp only [dateInRange, Bool.and_eq_true, decide_eq_true_eq] at hd
  obtain ⟨⟨⟨⟨⟨d1, d2⟩, d3⟩, d4⟩, d5⟩, d6⟩ := hd
  cases k <;> simp only [fieldsFit, widthsOf, layout, fieldWidths, assemblerValues, hdrList, hdrValues, tcList,
    tcValues, audioSourceList, audioSourceValues, audioControlList, audioControlValues, recDateList, recDateValues,
    recTimeList, recTimeValues, videoSourceList, videoSourceValues, videoControlList, videoControlValues,
    Bool.and_eq_true, decide_eq_true_eq, Bool.and_true, tens, units] <;> try omega
  have hdel : delta p x.n 0 < 64 := by
    unfold delta samplesOf
    have : x.n % cfg.seqLen < 5 := Nat.mod_lt _ (by decide)
    generalize x.n % cfg.seqLen = m at this
    rcases hp with rfl | rfl | rfl | rfl <;> interval_cases m <;> decide
  rw [hf rfl]
  refine ⟨by decide, hdel, by decide, by decide, by decide, by decide, by decide, ?_⟩
  split <;> omega

/-- A kind that no row of a distribution table holds is not found in it. -/
theorem tableAt_ne {t : List (List PackKind)} {k : PackKind} (hk : k ≠ .nopack)
    (h : (t.all fun r => r.all fun q => q != k) = true) (s i : Nat) : tableAt t s i ≠ k := by
  intro he
  unfold tableAt at he
  rw [List.getD_eq_getElem?_getD, List.getD_eq_getElem?_getD] at he
  simp only [List.all_eq_true] at h
  cases h1 : t[s]? with
  | none => simp [h1] at he; exact hk he.symm
  | some r =>
    have hr : r ∈ t := List.mem_of_getElem? h1
    simp only [h1, Option.getD_some] at he
    cases h2 : r[i]? with
    | none => simp [h2] at he; exact hk he.symm
    | some q =>
      have := h r hr q (List.mem_of_getElem? h2)
      simp [h2] at he; simp [he] at this

/-- A skeleton is formatted for every context in range with no stream or 48 kHz (R200). -/
theorem formatFrame_ok {p : Profile} (hp : p ∈ cfg.prof) {x : Ctx} (hd : dateInRange x.date = true)
    (ha : x.aspect ≤ 7) (hq : x.aquant ≤ 7)
    (hf : x.naudio = 0 ∨ x.afreq = 0) : ∃ F, formatFrame p x = .ok F := by
  unfold formatFrame
  rw [if_pos]; exact ⟨_, rfl⟩
  rw [List.all_eq_true]
  intro k hk
  apply makePack_isOk hp hd ha hq
  intro he; subst he
  rcases hf with hf | hf
  · exfalso
    simp only [kindsWritten, hf, List.mem_cons, List.mem_flatMap, List.mem_append, List.mem_map] at hk
    rcases hk with hk | ⟨s, _, (⟨i, _, hi⟩ | ⟨i, _, hi⟩) | ⟨i, _, hi⟩⟩
    · cases hk
    · exact tableAt_ne (by decide) (by decide) s i hi
    · exact tableAt_ne (by decide) (by decide) s i hi
    · simp at hi
  · exact hf

/-- The session's profile is one of the table. -/
theorem sessionProfile_mem (s : State) : sessionProfile s ∈ cfg.prof := List.mem_of_getElem? (sessionProfile_get s)

/-- In a mux session the skeleton of the current frame is always formatted (R267). -/
theorem session_format {s : State} (h : StateInv s) (hm : s.mode = .mux) :
    ∃ F, formatFrame (sessionProfile s) (sessionCtx s) = .ok F := by
  obtain ⟨h1, h2, h3⟩ := h.mux_audio hm
  refine formatFrame_ok (sessionProfile_mem s) h.date_range ?_ ?_ (.inr ?_)
  · have := s.aspect.isLt; simp [sessionCtx]; omega
  · simp [sessionCtx, h2]
  · simp [sessionCtx, h1]

/-- The assembled frame in the terms of the statements (R267). -/
theorem assembled_of {s : State} {F0 V} (hf : formatFrame (sessionProfile s) (sessionCtx s) = .ok F0) :
   ∃ F, assembledFrame s V = .ok F ∧ F.toList = frameFrom s F0 V := by
  unfold assembledFrame; simp only [hf]; exact ⟨_, rfl, rfl⟩

/-- The readiness condition in the terms of the statements (R266). -/
theorem frameReady_iff (s : State) :
    frameReady s = true ↔ s.mstate = .accumulating ∧ s.vpend = true ∧ audioReady s (fun _ => 0) := by
  unfold frameReady audioReady; simp [and_assoc]

/-- What a topology that OPEN_MUX takes has: a profile, and at most one stream per DIF channel (R262). -/
theorem muxTopology_ok {o r} (h : muxTopology o = .ok r) :
    ∃ p, cfg.prof[r]? = some p ∧ audioCount o.pay ≤ p.C ∧ audioCount o.pay ≤ 2 := by
  unfold muxTopology at h
  split at h; · cases h
  split at h; · cases h
  split at h; · cases h
  dsimp only at h
  split at h; · cases h
  split at h; · cases h
  split at h; · cases h
  split at h
  · cases h
  · rename_i r' hsel
    split at h; · cases h
    split at h; · cases h
    cases h
    unfold selectProfile at hsel
    rw [List.findIdx?_eq_some_iff_getElem] at hsel
    obtain ⟨hl, hq, _⟩ := hsel
    refine ⟨cfg.prof[r], by simp [hl], ?_, by omega⟩
    simp at hq; omega

/-- The ranges of what AudioParams finds (R243). -/
theorem audioParams_ok {p F ap} (h : audioParams p F = .ok (some ap)) :
    ap.ns ≤ 2 ∧ ap.smp ≤ 2 ∧ ap.qu ≤ 1 := by
  unfold audioParams at h
  split at h; · cases h
  dsimp only at h
  split at h; · cases h
  split at h; · cases h
  cases h
  dsimp only
  refine ⟨?_, by omega, by omega⟩
  split <;> omega

/-- The ranges of the audio part of a decoded frame (R292). -/
theorem audioOf_ok {p F a} (h : audioParams p F = .ok a) :
    (audioOf a).ns ≤ 2 ∧ (audioOf a).smp ≤ 2 ∧ (audioOf a).qu ≤ 1 := by
  cases a with
  | none => simp [audioOf]
  | some ap => exact audioParams_ok h

/-- In a state that keeps the invariant assembly does not fault: a pending unit is whole (R33, R38). -/
theorem evaluate_no_fault {s : State} (h : StateInv s) (f) : evaluate s ≠ .error (.faulted f) := by
  intro he
  rcases evaluate_cases s with ⟨_, h2⟩ | ⟨hr, hn, h2⟩ | ⟨_, V, _, ⟨k, _, h2⟩ | ⟨F, hF, h2⟩⟩
  · rw [h2] at he; cases he
  · have hv : s.vpend = true := by unfold frameReady at hr; simp at hr; exact hr.1.2
    obtain ⟨_, V, hl, hb⟩ := h.vpend_unit hv
    rw [hb, ← hl, Memory.ofBytes_readBytes] at hn; cases hn
  · rw [h2] at he; cases he
  · rw [h2] at he; cases he

/-- In a state that keeps the invariant emission does not fault: a READY frame is whole (R34, R38). -/
theorem emit_no_fault {s : State} (h : StateInv s) (f) : emit s ≠ .fault f := by
  intro he
  unfold emit at he
  split at he
  · rename_i hr
    obtain ⟨F, hl, hb⟩ := h.ready_frame hr
    rw [hb, ← hl, Memory.ofBytes_readBytes] at he
    cases he
  · cases he

/-- A session command faults only when its changes do. -/
theorem sessionCommand_no_fault {s ra r} (hr : ∀ f, r ≠ .error (.faulted f)) (f) : sessionCommand s ra r ≠ .fault f := by
  intro h
  unfold sessionCommand at h
  split at h <;> cases h
  exact hr _ rfl

end Sys2Proof.Machine
end

