-- ==== Sys2Proof/Tests/Slice0.lean ====
section
/-! SUPPORT. The model's own tests: well-formedness refuses ill-formed terms, words written out from the spec's
encodings decode, one-step tests with results from spec/95_test_vectors.md, and a witness for every statement
that has hypotheses. -/

namespace Sys2Proof.Tests

open Sys2Proof Sys2Proof.Machine Sys2Proof.Safety

/-! ### Helpers -/

/-- The state an instruction leaves, the state before it when it leaves none. -/
def after (i : Instr) (s : State) : State :=
  match exec i s with
  | .next t => t
  | _ => s

/-- The response packet an instruction leaves, as bytes; no bytes when it leaves none. -/
def answer (i : Instr) (s : State) : List Byte :=
  match exec i s with
  | .next t => (t.response.map responseBytes).getD []
  | _ => []

/-- The response to a command packet, run by a step from reset. -/
def answerTo (bs : List Byte) : List Byte :=
  match step (sent State.reset .cmd bs) with
  | .next t => (t.response.map responseBytes).getD []
  | _ => []

/-! ### Well-formedness refuses -/

theorem test_wf_payload_too_long (pay : List Byte) (h : pay.length = 2 ^ 32) :
    (Instr.close ⟨0, 0, pay⟩).wellFormed = false := by
  simp [Instr.wellFormed, lengthFits, h]

theorem test_wf_result_too_long (pay : List Byte) (h : pay.length = 2 ^ 32) :
    (Instr.classOk 0 pay).wellFormed = false := by
  simp [Instr.wellFormed, lengthFits, h]

theorem test_wf_pack_field_too_big :
    (Instr.kHdr ⟨false, 8, 0, 0, 0, 0, 0, 0⟩).wellFormed = false ∧
    (Instr.kTc ⟨0, 0, 4, 0, 0, 0, 0, 0, 0, 0, 0, 0, 0, 0⟩).wellFormed = false ∧
    (Instr.kAs ⟨0, 64, 0, 0, 0, 0, 0, 0, 0, 0, 0, 0, 0⟩).wellFormed = false ∧
    (Instr.kAc ⟨0, 0, 0, 0, 0, 0, 0, 0, 0, 128, 0⟩).wellFormed = false ∧
    (Instr.kArd ⟨256, 0, 0, 0, 0, 0, 0, 0⟩).wellFormed = false ∧
    (Instr.kArt ⟨0, 0, 8, 0, 0, 0, 0, 0⟩).wellFormed = false ∧
    (Instr.kVs ⟨0, 0, 0, 0, 0, 32, 0⟩).wellFormed = false ∧
    (Instr.kVc ⟨0, 8, 0, 0, 0, 0⟩).wellFormed = false ∧
    (Instr.kVrd ⟨0, 0, 0, 0, 2, 0, 0, 0⟩).wellFormed = false ∧
    (Instr.kVrt ⟨0, 0, 0, 0, 0, 0, 4, 0⟩).wellFormed = false := by decide

theorem test_wf_block_id :
    (Instr.sectHeader ⟨12, 0, 0⟩).wellFormed = false ∧ (Instr.sectHeader ⟨0, 0, 1⟩).wellFormed = false ∧
    (Instr.sectSubcode ⟨0, 0, 2⟩).wellFormed = false ∧ (Instr.sectAux ⟨0, 0, 3⟩).wellFormed = false ∧
    (Instr.sectAudio ⟨0, 0, 9⟩).wellFormed = false ∧ (Instr.sectVideo ⟨0, 0, 135⟩).wellFormed = false := by decide

theorem test_wf_sub_id : (Instr.subId ⟨true, 6⟩).wellFormed = false := by decide

theorem test_wf_class_code :
    (Instr.classRefused .profileUnrecognized).wellFormed = false ∧
    (Instr.classError .badMode).wellFormed = false := by decide

/-! ### Decoding words written out from the spec's encodings -/

/-- R101: the opcode of each command, alone (`A = B = LEN = 0`). -/
theorem test_decode_opcodes :
    [0x01, 0x02, 0x03, 0x04, 0x05, 0x06, 0x07, 0x08, 0x09, 0x10, 0x11, 0x12, 0x20, 0x21, 0x22, 0x30, 0x31, 0x32,
      0x33, 0x34, 0x35, 0x40, 0x41, 0x42].map (decodeTableWord 8)
    = [.openMux ⟨0, 0, []⟩, .pushVideo ⟨0, 0, []⟩, .pushAudio ⟨0, 0, []⟩, .tryEmitFrame ⟨0, 0, []⟩,
      .openDemux ⟨0, 0, []⟩, .feedFrame ⟨0, 0, []⟩, .close ⟨0, 0, []⟩, .setRecdt ⟨0, 0, []⟩,
      .readStatus ⟨0, 0, []⟩, .profileSelect ⟨0, 0, []⟩, .profileDetect ⟨0, 0, []⟩, .kindLookup ⟨0, 0, []⟩,
      .packEnc ⟨0, 0, []⟩, .packDec ⟨0, 0, []⟩, .tcDerive ⟨0, 0, []⟩, .formatFrame ⟨0, 0, []⟩,
      .injectVideo ⟨0, 0, []⟩, .injectAudio ⟨0, 0, []⟩, .extractVideo ⟨0, 0, []⟩, .extractAudio ⟨0, 0, []⟩,
      .extractPack ⟨0, 0, []⟩, .expand12 ⟨0, 0, []⟩, .unpack12 ⟨0, 0, []⟩, .shufAddr ⟨0, 0, []⟩].map some := by
  decide

/-- V1, V41, V50: whole packets; `A` in byte 1, `B` low byte first, `LEN`, then the payload (R100). -/
theorem test_decode_packets :
    decodeAs .cmd [0x42, 0, 0, 0, 4, 0, 0, 0, 0x00, 0x09, 0x05, 0x23] = .ok (.shufAddr ⟨0, 0, [0, 9, 5, 35]⟩) ∧
    decodeAs .cmd [0x40, 0, 0x01, 0x02, 0, 0, 0, 0] = .ok (.expand12 ⟨0, 0x201, []⟩) ∧
    decodeAs .cmd [0x12, 1, 0, 0, 3, 0, 0, 0, 0x02, 0x00, 0x03] = .ok (.kindLookup ⟨1, 0, [2, 0, 3]⟩) ∧
    decodeAs .cmd [0x42, 0, 0, 0, 4, 0, 0, 0, 0x00, 0x09, 0x05] = .error .lengthField ∧
    decodeAs .cmd [0x7F, 0, 0, 0, 0, 0, 0, 0] = .error .badOpcode ∧
    decodeAs .cmd [0x09, 0, 0] = .error .shortHeader := by decide

/-- V10: packs of every kind, byte 0 highest in the word. -/
theorem test_decode_packs :
    decodeTableWord 40 0xBFFDFA7FF9 = some (.kHdr ⟨true, 5, 1, 2, 0, 7, 1, 1⟩) ∧
    decodeTableWord 40 0x13428081C0 = some (.kTc ⟨0, 1, 0, 2, 1, 0, 0, 1, 0, 1, 1, 1, 0, 0⟩) ∧
    decodeTableWord 40 0x50FFFFBF7F = some (.kAs ⟨1, 63, 1, 3, 1, 15, 0, 1, 31, 0, 1, 7, 7⟩) ∧
    decodeTableWord 40 0x51C3387F80 = some (.kAc ⟨3, 0, 0, 3, 0, 0, 7, 0, 0, 127, 0⟩) ∧
    decodeTableWord 40 0x52FFD01126 = some (.kArd ⟨255, 1, 0, 0, 1, 1, 2, 6⟩) ∧
    decodeTableWord 40 0x6212F9F999 = some (.kVrd ⟨18, 3, 9, 7, 1, 9, 9, 9⟩) ∧
    decodeTableWord 40 0x53FFD9C5D3 = some (.kArt ⟨3, 15, 5, 9, 4, 5, 1, 3⟩) ∧
    decodeTableWord 40 0x63C08080C0 = some (.kVrt ⟨0, 0, 0, 0, 0, 0, 0, 0⟩) ∧
    decodeTableWord 40 0x60000FFF00 = some (.kVs ⟨0, 0, 0, 0, 1, 31, 0⟩) ∧
    decodeTableWord 40 0x61FFCF0CFF = some (.kVc ⟨3, 7, 0, 0, 0, 0⟩) ∧
    decodeTableWord 40 0xFF01020304 = some .nopack ∧
    decodeTableWord 40 0x1400000000 = none := by decide

/-- V20: block ids and sub-record ids of a skeleton, and ids outside the ranges of R106 and R108. -/
theorem test_decode_ids :
    decodeTableWord 24 0x1F0700 = some (.sectHeader ⟨0, 0, 0⟩) ∧
    decodeTableWord 24 0x3F0701 = some (.sectSubcode ⟨0, 0, 1⟩) ∧
    decodeTableWord 24 0x560702 = some (.sectAux ⟨0, 0, 2⟩) ∧
    decodeTableWord 24 0x760F03 = some (.sectAudio ⟨0, 1, 3⟩) ∧
    decodeTableWord 24 0x969786 = some (.sectVideo ⟨9, 0, 134⟩) ∧
    decodeTableWord 24 0x96BF84 = some (.sectVideo ⟨11, 1, 132⟩) ∧
    decodeTableWord 24 0x8FF1FF = some (.subId ⟨true, 1⟩) ∧
    decodeTableWord 24 0x0FF0FF = some (.subId ⟨false, 0⟩) ∧
    decodeTableWord 24 0x1FC700 = none ∧ decodeTableWord 24 0x1F0000 = none ∧
    decodeTableWord 24 0x8FF6FF = none := by decide

/-- R102, R320: response packets and codes. -/
theorem test_decode_responses_and_codes :
    decodeAs .resp [0x00, 0x00, 0x50, 0, 1, 0, 0, 0, 0xAB] = .ok (.classOk 0x50 [0xAB]) ∧
    decodeAs .resp [0x01, 0x00, 0, 0, 0, 0, 0, 0] = .ok .classNotReady ∧
    decodeAs .resp [0x02, 0x03, 0, 0, 0, 0, 0, 0] = .ok .classIncomplete ∧
    decodeAs .resp [0x03, 0x16, 0, 0, 0, 0, 0, 0] = .ok (.classRefused .fifoFull) ∧
    decodeAs .resp [0x04, 0x02, 0, 0, 0, 0, 0, 0] = .ok (.classError .unsupportedQuantization) ∧
    decodeAs .resp [0x04, 0x16, 0, 0, 0, 0, 0, 0] = .error .badResponse ∧
    [0x00, 0x01, 0x02, 0x03, 0x04, 0x10, 0x11, 0x12, 0x13, 0x14, 0x15, 0x16, 0x17].map
        (fun b => (decodeAs .code [b]).toOption)
      = [.codeNone, .codeProfileUnrecognized, .codeUnsupportedQuantization, .codeIncompleteInput,
        .codeStreamTopologyInvalid, .codeBadOpcode, .codeBadMode, .codeBadOperand, .codeFieldRange,
        .codeLengthMismatch, .codePackMismatch, .codeFifoFull, .codeSessionFailed].map some ∧
    decodeAs .code [0x05] = .error .badCode := by decide

/-! ### One-step tests: results of spec/95_test_vectors.md -/

/-- V1. -/
theorem test_profile_select :
    answerTo [0x10, 0, 0, 0, 6, 0, 0, 0, 0x02, 0x0A, 0x80, 0xA9, 0x03, 0x00] = [0, 0, 2, 0, 0, 0, 0, 0] ∧
    answerTo [0x10, 0, 0, 0, 6, 0, 0, 0, 0x01, 0x0A, 0x80, 0x32, 0x02, 0x00] = [4, 1, 0, 0, 0, 0, 0, 0] := by decide

/-- V2. -/
theorem test_profile_detect :
    answer (.profileDetect ⟨0, 0, [0x1F, 0, 0, 0xBF] ++ List.replicate 444 0 ++ [0x60, 0, 0, 0x04]
      ++ List.replicate 28 0⟩) State.reset = [0, 0, 3, 0, 0, 0, 0, 0] ∧
    answer (.profileDetect ⟨0, 0, List.replicate 479 0⟩) State.reset = [2, 3, 0, 0, 0, 0, 0, 0] := by
  decide +kernel

/-- V3. -/
theorem test_kind_lookup :
    answerTo [0x12, 1, 0, 0, 3, 0, 0, 0, 0x02, 0x00, 0x03] = [0, 0, 0x50, 0, 0, 0, 0, 0] ∧
    answerTo [0x12, 0, 0, 0, 3, 0, 0, 0, 0x00, 0x0A, 0x00] = [3, 0x12, 0, 0, 0, 0, 0, 0] := by decide

/-- V10. -/
theorem test_pack_enc :
    answer (.packEnc ⟨0x50, 0, [1, 63, 1, 3, 1, 15, 0, 1, 31, 0, 1, 7, 7]⟩) State.reset
      = [0, 0, 0, 0, 5, 0, 0, 0, 0x50, 0xFF, 0xFF, 0xBF, 0x7F] ∧
    answer (.packEnc ⟨0x61, 0, [0, 0, 0, 0, 0]⟩) State.reset = [3, 0x14, 0, 0, 0, 0, 0, 0] := by decide

/-- V10: constant bits are not looked at (R110); an unknown selector is BadOperand. -/
theorem test_pack_dec :
    answer (.packDec ⟨0, 0, [0x61, 0, 0, 0, 0]⟩) State.reset
      = [0, 0, 0x61, 0, 6, 0, 0, 0, 0, 0, 0, 0, 0, 0] ∧
    answer (.packDec ⟨0, 0, [0x14, 0, 0, 0, 0]⟩) State.reset = [3, 0x12, 0, 0, 0, 0, 0, 0] := by decide

/-- V11: drop-frame and plain counting at `2^64 - 1`. -/
theorem test_tc_derive :
    answer (.tcDerive ⟨0, 0, List.replicate 8 0xFF⟩) State.reset = [0, 0, 0, 0, 5, 0, 0, 0, 20, 44, 31, 29, 1] ∧
    answer (.tcDerive ⟨1, 0, List.replicate 8 0xFF⟩) State.reset = [0, 0, 0, 0, 5, 0, 0, 0, 1, 14, 24, 15, 0] := by
  decide

/-- V20: `A` before the length (R329); 48 kHz only (R178). -/
theorem test_format_frame_refusals :
    answer (.formatFrame ⟨9, 0, [0]⟩) State.reset = [3, 0x12, 0, 0, 0, 0, 0, 0] ∧
    answer (.formatFrame ⟨0, 0, [0, 0, 0, 0, 0, 0, 0, 0, 1, 2, 0, 0, 70, 1, 1, 0, 0, 0]⟩) State.reset
      = [3, 0x13, 0, 0, 0, 0, 0, 0] := by decide +kernel

/-- V20: the packs of a profile-0 skeleton. -/
theorem test_skeleton_packs :
    packBytes .audioSource (profile10 1 0) ⟨0, 1, 0, 0, 0, defaultDate⟩ = [0x50, 0x56, 0x00, 0xC0, 0x80] ∧
    packBytes .videoControl (profile10 1 0) ⟨0, 1, 0, 0, 0, defaultDate⟩ = [0x61, 0x3F, 0xC8, 0xFC, 0xFF] ∧
    packBytes .audioRecDate (profile10 1 0) ⟨0, 1, 0, 0, 0, defaultDate⟩ = [0x52, 0xFF, 0xC1, 0x01, 0x70] := by
  decide

/-- V21, V41: where the first and the last video block of profile 0 lie, and its length refusal. -/
theorem test_inject_video :
    videoBlk (profile10 1 0) 0 0 0 = 560 ∧ videoBlk (profile10 1 0) 0 9 134 = 119920 ∧
    answer (.injectVideo ⟨0, 0, [0]⟩) State.reset = [3, 0x14, 0, 0, 0, 0, 0, 0] := by decide

/-- R210, R329. -/
theorem test_extract_video :
    answer (.extractVideo ⟨4, 0, [0]⟩) State.reset = [3, 0x12, 0, 0, 0, 0, 0, 0] ∧
    answer (.extractVideo ⟨0, 0, [0]⟩) State.reset = [3, 0x14, 0, 0, 0, 0, 0, 0] := by decide

/-- V30: channel 1 of a one-channel profile. -/
theorem test_inject_audio :
    answer (.injectAudio ⟨0, 1, [0]⟩) State.reset = [3, 0x12, 0, 0, 0, 0, 0, 0] ∧
    [(0, 0, 0), (5, 0, 0), (2, 3, 0), (7, 3, 0)].map (fun x => sidx (profile10 1 0) x.1 x.2.1 x.2.2) = [0, 1, 2, 3] ∧
    [(0, 0, 0), (5, 0, 0), (2, 3, 0), (7, 3, 0)].map (fun x => slotAddr (profile10 1 0) 0 x.1 x.2.1 x.2.2)
      = [488, 60488, 28328, 88328] := by decide

/-- V21: a byte that names no fixed pack, and a wrong length. -/
theorem test_extract_pack :
    answer (.extractPack ⟨0, 0x13, [0]⟩) State.reset = [3, 0x12, 0, 0, 0, 0, 0, 0] ∧
    answer (.extractPack ⟨0, 0x50, [0]⟩) State.reset = [3, 0x14, 0, 0, 0, 0, 0, 0] := by decide

/-- V50. -/
theorem test_expand12 :
    answerTo [0x40, 0, 0x01, 0x02, 0, 0, 0, 0] = [0, 0, 0, 0, 2, 0, 0, 0, 0x02, 0x02] ∧
    [0x900, 0x800, 0x801, 0x7FF, 0xAFF, 0xDFF].map (fun c => (expand12 c).toInt)
      = [-16353, -32705, -32641, 32704, -4097, -513] := by decide

/-- V51. -/
theorem test_unpack12 :
    answer (.unpack12 ⟨0, 0, [0x7F, 0x80, 0xF1]⟩) State.reset
      = [0, 0, 0, 0, 4, 0, 0, 0, 0xFF, 0x07, 0x01, 0x08] := by decide

/-- V41. -/
theorem test_shuf_addr :
    answerTo [0x42, 0, 0, 0, 4, 0, 0, 0, 0x00, 0x09, 0x05, 0x23]
      = [0, 0, 0, 0, 8, 0, 0, 0, 0x99, 0x0C, 0, 0, 0x0E, 0xC1, 0x01, 0x00] ∧
    answer (.shufAddr ⟨0, 0, [0, 0, 0, 36]⟩) State.reset = [3, 0x12, 0, 0, 0, 0, 0, 0] := by decide

/-- P1 step 1: the session of the source's concrete scenario. -/
def openDesc : List Byte :=
  [0x00, 0x01, 0x0A, 0x00, 0xC0, 0xD4, 0x01, 0x00, 0x01, 0x00, 0x00, 0x00, 0x00, 0x02, 0x10, 0x00, 0x80, 0xBB, 0x00, 0x00]

/-- P1 step 1. -/
theorem test_open_mux :
    statusBytes (after (.openMux ⟨0, 0, openDesc⟩) State.reset)
      = [1, 0, 2, 0, 1, 0, 0, 0] ++ List.replicate 24 0 ++ [0, 0, 0x46, 1, 1, 0, 0, 0] ∧
    answer (.openMux ⟨0, 0, [0, 1, 10, 0, 0xC0, 0xD4, 1, 0, 3, 0, 0, 0]⟩) State.reset
      = [4, 4, 0, 0, 0, 0, 0, 0] := by decide

/-- A mux session of profile 0 with one stream. -/
def muxed : State := { State.reset with mode := .mux, pvalid := true, naudio := 1 }

/-- R30, R263: a unit still pending is lost; V61: the length is tested. -/
theorem test_push_video :
    (videoPushed { muxed with vpend := true } [0]).vovr = true ∧
    answer (.pushVideo ⟨0, 0, [0]⟩) muxed = [3, 0x14, 0, 0, 0, 0, 0, 0] := by decide

/-- R264: the bytes go to the tail of the FIFO; V61: a stream the session has not. -/
theorem test_push_audio :
    (audioPushed { muxed with fifo0 := [1] } 0 [2, 3]).fifo0 = [1, 2, 3] ∧
    answer (.pushAudio ⟨1, 0, [2]⟩) muxed = [3, 0x12, 0, 0, 0, 0, 0, 0] := by decide

/-- P1 steps 3 and 7: NOT_READY; EMITTED ends. -/
theorem test_try_emit_frame :
    answer (.tryEmitFrame ⟨0, 0, []⟩) muxed = [1, 0, 0, 0, 0, 0, 0, 0] ∧
    (after (.tryEmitFrame ⟨0, 0, []⟩) { muxed with mstate := .emitted }).mstate = .accumulating := by decide

/-- P1 step 2; V61: `ss = 80`. -/
theorem test_set_recdt :
    (after (.setRecdt ⟨0, 0, [26, 11, 10, 13, 45, 59]⟩) muxed).recdt = ⟨26, 11, 10, 13, 45, 59⟩ ∧
    answer (.setRecdt ⟨0, 0, [26, 11, 10, 13, 45, 80]⟩) muxed = [3, 0x13, 0, 0, 0, 0, 0, 0] := by decide

/-- Conventions of spec/95_test_vectors.md: `STATUS` after reset; the flag byte of R30. -/
theorem test_read_status :
    answer (.readStatus ⟨0, 0, []⟩) State.reset
      = [0, 0, 0, 0, 40, 0, 0, 0] ++ List.replicate 34 0 ++ [0x46, 1, 1, 0, 0, 0] ∧
    flagByte { muxed with aovf := true } = 0x0A := by decide

/-- P4 steps 5 and 6. -/
theorem test_open_demux :
    answer (.openDemux ⟨0, 0, []⟩) State.reset = [0, 0, 0, 0, 0, 0, 0, 0] ∧
    answer (.openDemux ⟨0, 0, []⟩) { State.reset with mode := .demux } = [3, 0x11, 0, 0, 0, 0, 0, 0] := by decide

/-- P4 steps 7 and 9. -/
theorem test_feed_frame :
    answer (.feedFrame ⟨0, 0, List.replicate 100 0⟩) { State.reset with mode := .demux }
      = [2, 3, 0, 0, 0, 0, 0, 0] ∧
    (feedFrame (List.replicate 480 0) { State.reset with mode := .demux }).mode = .failed := by
  refine ⟨by decide, ?_⟩
  have h : detectProfile (List.replicate 480 0) = none := by decide
  unfold feedFrame
  rw [if_neg (by rw [List.length_replicate]; decide), h]
  rfl

/-- P4 step 13; R299. -/
theorem test_close :
    (after (.close ⟨0, 0, []⟩) { muxed with err := 0x11, fifo0 := [1], vovr := true })
      = { State.reset with response := some ⟨.ok, 0, 0, []⟩ } ∧
    answer (.close ⟨0, 0, [0]⟩) muxed = [3, 0x14, 0, 0, 0, 0, 0, 0] := by decide

/-- V61: the first row, as a whole step. -/
theorem test_bad_opcode : answerTo [0x7F, 0, 0, 0, 0, 0, 0, 0] = [3, 0x10, 0, 0, 0, 0, 0, 0] := by decide

/-- A pack presented by itself, V10 row 6; a field that does not fit (R111). -/
theorem test_presented_pack :
    answer (.kAs ⟨0, 22, 0, 0, 0, 0, 1, 0, 0, 1, 0, 0, 0⟩) State.reset
      = [0, 0, 0x50, 0, 13, 0, 0, 0, 0, 22, 0, 0, 0, 0, 1, 0, 0, 1, 0, 0, 0] ∧
    answer (.kVc ⟨0, 8, 0, 0, 0, 0⟩) State.reset = [3, 0x13, 0, 0, 0, 0, 0, 0] := by decide

/-- A word of the table is the next thing a step takes. -/
theorem test_with_fetch_word :
    step (State.reset.withFetchWord 8 0x09) = exec (.readStatus ⟨0, 0, []⟩) { State.reset with opc := 0x09 } := by
  rfl

/-! ### Concrete frames and states for the witnesses -/

/-- A profile-0 or profile-1 sized frame with a header pack byte and a pack at `AsAddr`, filler elsewhere. -/
def testFrame (hdr : Byte) (pack : List Byte) (size : Nat) : List Byte :=
  [0x1F, 0x07, 0x00, hdr] ++ (List.replicate 4319 0xFF ++ (pack ++ List.replicate (size - 4328) 0xFF))

theorem testFrame_length {hdr : Byte} {pack : List Byte} {size : Nat} (hp : pack.length = 5) (hs : 4328 ≤ size) :
    (testFrame hdr pack size).length = size := by
  simp only [testFrame, List.length_append, List.length_replicate, List.length_cons, List.length_nil, hp]
  omega

theorem payAt_replicate {n i : Nat} (b : Byte) (h : i < n) : payAt (List.replicate n b) i = b := by
  simp [payAt, List.getD_eq_getElem?_getD, h]

/-- Byte `h.length + n + i` of `h`, `n` filler bytes, `p`, `t`. -/
theorem payAt_framed (h p t : List Byte) (b : Byte) (n i : Nat) (hi : i < p.length) :
    payAt (h ++ (List.replicate n b ++ (p ++ t))) (h.length + n + i) = payAt p i := by
  rw [payAt_append_right (by omega), payAt_append_right (by rw [List.length_replicate]; omega),
    List.length_replicate, payAt_append_left (by omega)]
  congr 1
  omega

/-- A filler byte of the same. -/
theorem payAt_filler (h t : List Byte) (b : Byte) (n i : Nat) (h1 : h.length ≤ i) (h2 : i < h.length + n) :
    payAt (h ++ (List.replicate n b ++ t)) i = b := by
  rw [payAt_append_right h1, payAt_append_left (by rw [List.length_replicate]; omega),
    payAt_replicate _ (by omega)]

theorem testFrame_pack {hdr : Byte} {pack : List Byte} {size i : Nat} (hp : pack.length = 5) (hi : i < 5) :
    payAt (testFrame hdr pack size) (4323 + i) = payAt pack i :=
  payAt_framed [0x1F, 0x07, 0x00, hdr] pack _ 0xFF 4319 i (by omega)

theorem testFrame_fill {hdr : Byte} {pack : List Byte} {size i : Nat} (h : 4 ≤ i) (hi : i < 4323) :
    payAt (testFrame hdr pack size) i = 0xFF :=
  payAt_filler [0x1F, 0x07, 0x00, hdr] _ 0xFF 4319 i h (by show i < 4 + 4319; omega)

/-- The stub frames are recognised by their header pack alone. -/
theorem testFrame_detect (pack : List Byte) (size : Nat) :
    detectProfile (testFrame 0x3F pack size) = some 0 ∧ detectProfile (testFrame 0xBF pack size) = some 1 ∧
      detectProfile (testFrame 0x00 pack size) = none := by
  have h0 : ∀ hdr, payAt (testFrame hdr pack size) 0 = 0x1F := fun _ => rfl
  have h3 : ∀ hdr, payAt (testFrame hdr pack size) 3 = hdr := fun _ => rfl
  have hv : ∀ hdr, payAt (testFrame hdr pack size) vsAddr = 0xFF :=
    fun _ => testFrame_fill (by decide) (by decide)
  have hn : ((0xFF : Byte) == cfg.selector .videoSource) = false := by decide
  unfold detectProfile
  simp only [h0, cfg_idLen, h3, hv, hn, Bool.false_and]
  decide

/-- The audio source pack of V20, of V52, and one with both codes without a meaning. -/
def packLinear : List Byte := [0x50, 0x56, 0x00, 0xC0, 0x80]
def packNonlinear : List Byte := [0x50, 0x5B, 0x00, 0xC0, 0x91]
def packUnsupported : List Byte := [0x50, 0x56, 0x00, 0xC0, 0x9A]

/-- `muxed` with everything the first frame needs. -/
def pendingState : State :=
  { muxed with
    vpend := true
    vbuf := Memory.ofBytes (List.replicate 103950 0)
    fifo0 := List.replicate 6408 1 }

/-- `muxed` with a frame waiting in FRAMEBUF. -/
def readyState : State :=
  { muxed with mstate := .ready, framebuf := Memory.ofBytes (List.replicate 120000 0xFF) }

/-- `muxed` after a frame has been emitted. -/
def emittedState : State :=
  { muxed with mstate := .emitted, frames := 1, framebuf := Memory.ofBytes (List.replicate 120000 0xFF) }

/-- A demux session before its first frame. -/
def demuxed : State := { State.reset with mode := .demux }

/-- A session of profile 0 with one stream keeps the invariant when its buffers are whole. -/
theorem muxed_inv (frames : Counter) (m : MuxState) (vp : Bool) (vb fb : Memory) (q : List Byte)
    (hv : if vp then vb = Memory.ofBytes (List.replicate 103950 0) else vb = [])
    (hf : if m = .accumulating then fb = [] else fb = Memory.ofBytes (List.replicate 120000 0xFF))
    (hq : q.length ≤ 7680) :
    StateInv { muxed with frames := frames, mstate := m, vpend := vp, vbuf := vb, framebuf := fb, fifo0 := q } where
  vbuf_wf := by
    cases vp
    · rw [if_neg (by decide)] at hv; subst hv; exact Memory.nil_wf
    · rw [if_pos rfl] at hv; subst hv; exact Memory.ofBytes_wf _
  framebuf_wf := by
    split at hf
    · subst hf; exact Memory.nil_wf
    · subst hf; exact Memory.ofBytes_wf _
  mstate_outside_mux := fun h => absurd rfl h
  abytes_outside_demux := fun _ => rfl
  pvalid_in_mux := fun _ => rfl
  pvalid_closed := nofun
  mux_audio := fun _ => ⟨rfl, rfl, by show muxed.naudio.toNat ≤ (sessionProfile muxed).C; decide⟩
  naudio_range := by show muxed.naudio.toNat ≤ 2; decide
  audio_codes := by show muxed.afreq.toNat ≤ 2 ∧ muxed.aquant.toNat ≤ 1; decide
  vpend_unit := by
    intro h
    cases vp
    · cases h
    · rw [if_pos rfl] at hv
      exact ⟨rfl, List.replicate 103950 0,
        List.length_replicate.trans (show 103950 = videoUnit (sessionProfile muxed) by decide), hv⟩
  ready_frame := by
    intro h
    replace h : m = .ready := h
    subst h
    exact ⟨List.replicate 120000 0xFF,
      List.length_replicate.trans (show 120000 = (sessionProfile muxed).frameSize by decide), hf⟩
  fifo_cap := by
    show q.length ≤ 7680 + Config.fifoSlack ∧ 0 ≤ 7680 + Config.fifoSlack
    omega
  fifo0_unused := by
    intro h
    rcases h with h | h
    · exact absurd rfl h
    · exact absurd (show muxed.naudio.toNat = 0 from h) (by decide)
  fifo1_unused := fun _ => rfl
  date_range := by show dateInRange muxed.recdt = true; decide

theorem witness_inv_muxed : StateInv muxed := muxed_inv 0 .accumulating false [] [] [] rfl rfl (by decide)

theorem witness_inv_pending : StateInv pendingState :=
  muxed_inv 0 .accumulating true _ [] (List.replicate 6408 1) rfl rfl (by rw [List.length_replicate]; decide)

theorem witness_inv_ready : StateInv readyState := muxed_inv 0 .ready false [] _ [] rfl rfl (by decide)

theorem witness_inv_emitted : StateInv emittedState := muxed_inv 1 .emitted false [] _ [] rfl rfl (by decide)

/-- The first frame of `pendingState` has its audio; that of `muxed` has not. -/
theorem witness_audio :
    audioReady pendingState (fun _ => 0) ∧ ¬ audioReady muxed (fun _ => 0) ∧
    audioReady muxed (fun i => if i = 0 then 6408 else 0) ∧
    ¬ audioReady muxed (fun i => if i = 0 then 6407 else 0) := by
  have hr : req (sessionProfile muxed) muxed.frames.toNat = 6408 := by decide
  have hp : req (sessionProfile pendingState) pendingState.frames.toNat = 6408 := hr
  refine ⟨?_, ?_, ?_, ?_⟩
  · intro i hi
    have h0 : i = 0 := Nat.lt_one_iff.1 hi
    subst h0
    rw [hp]
    simp only [fifoOf, pendingState, if_true, List.length_replicate]
    decide
  · intro h
    have h0 := h 0 (by decide)
    rw [hr] at h0
    exact absurd h0 (by decide)
  · intro i hi
    have h0 : i = 0 := Nat.lt_one_iff.1 hi
    subst h0
    rw [hr]
    decide
  · intro h
    have h0 := h 0 (by decide)
    rw [hr] at h0
    exact absurd h0 (by decide)

/-! ### Witnesses: for each statement with hypotheses, concrete values that meet them, clause by clause -/

theorem witness_DecodeOfEncode :
    (Instr.sectVideo ⟨11, 1, 134⟩).wellFormed = true ∧ (Instr.shufAddr ⟨255, 0xFFFF, [1, 2]⟩).wellFormed = true ∧
    (Instr.classError .streamTopologyInvalid).wellFormed = true ∧ (Instr.subId ⟨true, 5⟩).wellFormed = true := by
  decide

/-- Every field at its largest value. -/
theorem witness_PackBitLayouts :
    packFits .hdr (hdrList ⟨true, 7, 1, 7, 1, 7, 1, 7⟩) = true ∧
    packFits .tc (tcList ⟨1, 1, 3, 15, 1, 7, 15, 1, 7, 15, 1, 1, 3, 15⟩) = true ∧
    packFits .audioSource (audioSourceList ⟨1, 63, 1, 3, 1, 15, 1, 1, 31, 1, 1, 7, 7⟩) = true ∧
    packFits .audioControl (audioControlList ⟨3, 3, 3, 3, 1, 1, 7, 7, 1, 127, 127⟩) = true ∧
    packFits .audioRecDate (recDateList ⟨255, 3, 15, 7, 1, 15, 15, 15⟩) = true ∧
    packFits .audioRecTime (recTimeList ⟨3, 15, 7, 15, 7, 15, 3, 15⟩) = true ∧
    packFits .videoSource (videoSourceList ⟨255, 1, 1, 3, 1, 31, 255⟩) = true ∧
    packFits .videoControl (videoControlList ⟨3, 7, 1, 1, 1, 1⟩) = true := by decide

theorem witness_BlockAndSubRecordIds :
    (0 : Nat) ≤ 5 ∧ (5 : Nat) ≤ 5 ∧ (Instr.subId ⟨false, 5⟩).wellFormed = true ∧
    (Instr.subId ⟨false, 6⟩).wellFormed = false := by decide

/-- A whole command packet and a block id as the next input, and nothing sent. -/
theorem witness_StepRunsTheDecodedInstruction :
    (sent State.reset .cmd [0x09, 0, 0, 0, 0, 0, 0, 0]).inbox = .transfer .cmd [0x09, 0, 0, 0, 0, 0, 0, 0] :: [] ∧
    decodeAs .cmd [0x09, 0, 0, 0, 0, 0, 0, 0] = .ok (.readStatus ⟨0, 0, []⟩) ∧
    (sent State.reset .blkid [0x96, 0xBF, 0x84]).inbox = .transfer .blkid [0x96, 0xBF, 0x84] :: [] ∧
    decodeAs .blkid [0x96, 0xBF, 0x84] = .ok (.sectVideo ⟨11, 1, 132⟩) ∧
    State.reset.inbox = [] := by decide

theorem witness_UnknownOpcodeRefused :
    ([] : List Byte).length < 2 ^ 32 ∧
    (0x43 : Byte).toNat ∉ [0x01, 0x02, 0x03, 0x04, 0x05, 0x06, 0x07, 0x08, 0x09, 0x10, 0x11, 0x12, 0x20, 0x21, 0x22,
      0x30, 0x31, 0x32, 0x33, 0x34, 0x35, 0x40, 0x41, 0x42] ∧
    (sent State.reset .cmd [0x43, 0, 0, 0, 0, 0, 0, 0]).inbox
      = .transfer .cmd ([0x43, 0] ++ leBytes 2 (0 : Half).toNat ++ leBytes 4 ([] : List Byte).length ++ []) :: [] := by
  decide

theorem witness_HardwareResetValues :
    ({ readyState with inbox := [.hardReset] } : State).inbox = .hardReset :: [] ∧
    ({ muxed with inbox := [.resetDuring .cmd [0x04, 0, 0, 0, 0, 0, 0, 0]] } : State).inbox
      = .resetDuring .cmd [0x04, 0, 0, 0, 0, 0, 0, 0] :: [] := ⟨rfl, rfl⟩

/-- A success that clears `ERR`, one that leaves it, a refusal. -/
theorem witness_ErrHoldsTheLastCondition :
    formatOf (.close ⟨0, 0, []⟩) = .cmd ∧
    exec (.close ⟨0, 0, []⟩) State.reset = .next (okState State.reset 0 []) ∧
    exec (.expand12 ⟨0, 1, []⟩) State.reset = .next (okState State.reset 0 [1, 0]) ∧
    ¬ reportsCondition ⟨.ok, 0, 0, []⟩ ∧
    exec (.close ⟨1, 0, []⟩) State.reset = .next (endedState State.reset .refused 0x12) ∧
    reportsCondition ⟨.refused, 0x12, 0, []⟩ ∧
    decodeAs .cmd [0x7F, 0, 0, 0, 0, 0, 0, 0] = .error .badOpcode ∧
    step (sent State.reset .cmd [0x7F, 0, 0, 0, 0, 0, 0, 0])
      = .next (endedState { State.reset with opc := 0x7F } .refused 0x10) ∧
    step { muxed with inbox := [.hardReset] } = .next State.reset := by
  refine ⟨rfl, rfl, rfl, ?_, rfl, .inr (.inl rfl), rfl, rfl, rfl⟩
  rintro (h | h | h) <;> cases h

/-- A full FIFO of the session: a push of one byte does not fit. -/
def fullState : State := { muxed with fifo0 := List.replicate cfg.fifoCap 0 }

theorem witness_fifo_full :
    exec (.pushAudio ⟨0, 0, [1]⟩) fullState = .next (endedState { fullState with aovf := true } .refused 0x16) := by
  show execPushAudio ⟨0, 0, [1]⟩ fullState = _
  unfold execPushAudio pushAudio
  rw [modeRefusal_self (show fullState.mode = .mux from rfl) (by decide)]
  have h1 : ¬ ((⟨0, 0, [1]⟩ : Operands).a.toNat ≥ fullState.naudio.toNat ∨ (⟨0, 0, [1]⟩ : Operands).b ≠ 0) := by
    show ¬ ((0 : Byte).toNat ≥ (1 : BitVec 2).toNat ∨ (0 : Half) ≠ 0)
    decide
  have h2 : (fifoOf fullState (⟨0, 0, [1]⟩ : Operands).a.toNat).length + lenOf ⟨0, 0, [1]⟩ > cfg.fifoCap := by
    show (List.replicate cfg.fifoCap (0 : Byte)).length + 1 > cfg.fifoCap
    rw [List.length_replicate]
    exact Nat.lt_succ_self _
  dsimp only
  rw [if_neg h1, if_pos h2]
  rfl

/-- The three exceptions of R328: a fatal FEED_FRAME, a push that does not fit, and a plain refusal. -/
theorem witness_RefusalsArePrecise :
    exec (.pushAudio ⟨0, 0, [1]⟩) fullState = .next (endedState { fullState with aovf := true } .refused 0x16) ∧
    reportsCondition ⟨.refused, 0x16, 0, []⟩ ∧
    exec (.feedFrame ⟨0, 0, testFrame 0 packLinear 4328⟩) demuxed
      = .next (endedState { demuxed with mode := .failed } .error 0x01) ∧
    reportsCondition ⟨.error, 0x01, 0, []⟩ ∧
    exec (.close ⟨0, 0, [1]⟩) muxed = .next (endedState muxed .refused 0x14) := by
  refine ⟨witness_fifo_full, .inr (.inl rfl), ?_, .inr (.inr rfl), rfl⟩
  show Host.Outcome.next (feedFrame (testFrame 0 packLinear 4328) demuxed) = _
  unfold feedFrame
  rw [if_neg (by rw [testFrame_length rfl (by decide)]; decide), (testFrame_detect packLinear 4328).2.2]
  rfl

theorem witness_LegalCommandsPerMode :
    formatOf (.feedFrame ⟨0, 0, []⟩) = .cmd ∧ muxed.mode ∉ legalModes (.feedFrame ⟨0, 0, []⟩) ∧
    demuxed.mode ∈ legalModes (.feedFrame ⟨0, 0, []⟩) ∧
    exec (.feedFrame ⟨0, 0, []⟩) demuxed = .next (endedState demuxed .incomplete 0x03) ∧
    Mode.failed ∉ legalModes (.openMux ⟨0, 0, []⟩) ∧ Mode.failed ∈ legalModes (.close ⟨0, 0, []⟩) := by
  refine ⟨rfl, by decide, by decide, rfl, by decide, by decide⟩

theorem witness_ModeTransitions :
    exec (.openDemux ⟨0, 0, []⟩) State.reset = .next (okState demuxed 0 []) ∧
    (okState demuxed 0 []).mode ≠ State.reset.mode := ⟨rfl, by decide⟩

theorem witness_PureCommands :
    isPure (.shufAddr ⟨0, 0, [0, 9, 8, 35]⟩) = true ∧ isPure (.packDec ⟨0, 0, []⟩) = true := by decide

theorem witness_ProfileIsLatched :
    exec (.openMux ⟨0, 0, openDesc⟩) State.reset = .next (okState muxed 0 []) ∧
    (okState muxed 0 []).pvalid ≠ State.reset.pvalid := by
  refine ⟨?_, by decide⟩
  have h : muxTopology ⟨0, 0, openDesc⟩ = .ok 0 := by decide
  show execOpenMux ⟨0, 0, openDesc⟩ State.reset = _
  unfold execOpenMux openMux
  rw [modeRefusal_self (show State.reset.mode = .closed from rfl) (by decide), h]
  rfl

theorem witness_PackCodecContract :
    ((true = true → PackKind.hdr = .hdr) ∧ fieldsFit (widthsOf .hdr) [7, 1, 7, 1, 7, 1, 7] = true) ∧
    ((false = true → PackKind.nopack = .hdr) ∧ fieldsFit (widthsOf .nopack) [] = true) ∧
    (([0x61, 0, 0, 0, 0] : List Byte).length = 5 ∧
      (kindOfSelector (payAt [0x61, 0, 0, 0, 0] 0)).isSome = true) ∧
    fieldsFit (widthsOf .videoControl) (([3, 7, 1, 1, 1, 1] : List Byte).map BitVec.toNat) = true := by decide

theorem witness_TimecodeFollowsTheCountingRule :
    (cfg.prof[3]? = some (profile12 2 4) ∧ 2 ^ 64 - 1 < 2 ^ 64) ∧
    ((4 : Byte).toNat ≥ 4) ∧ ((3 : Byte).toNat < 4 ∧ ([] : List Byte).length ≠ 8) := by
  exact ⟨⟨rfl, by decide⟩, by decide, by decide⟩

theorem witness_DropFrameInvariant :
    profile10 1 0 ∈ cfg.prof ∧ (profile10 1 0).drop = true ∧ (tcLabel (profile10 1 0) 1800).s = 0 ∧
    (tcLabel (profile10 1 0) 1800).m % 10 ≠ 0 := by decide

/-- The largest context: every field at the top of its range. -/
theorem witness_AssemblerPacks :
    profile12 2 4 ∈ cfg.prof ∧
    (let x : Ctx := ⟨2 ^ 64 - 1, 2, 0, 1, 7, ⟨99, 19, 39, 39, 79, 79⟩⟩;
      x.afreq = 0 ∧ x.aquant ≤ 1 ∧ x.aspect ≤ 7 ∧ dateInRange x.date = true) ∧
    (⟨0, 1, 2, 0, 0, defaultDate⟩ : Ctx).afreq = 2 := by decide

/-- The context record of V20, as bytes. -/
def ctxPay : List Byte := [0, 0, 0, 0, 0, 0, 0, 0, 1, 0, 0, 0, 70, 1, 1, 0, 0, 0]

/-- In range with one stream; out of range by the frequency code of a written pack; too short; `A` too large; the
last byte of the last block. -/
theorem witness_SkeletonLayout :
    cfg.prof[0]? = some (profile10 1 0) ∧ ctxPay.length = 18 ∧ (ctxOf ctxPay).naudio ≤ 1 ∧
    (ctxOf ctxPay).afreq = 0 ∧ (ctxOf ctxPay).aquant ≤ 1 ∧ (ctxOf ctxPay).aspect ≤ 7 ∧
    dateInRange (ctxOf ctxPay).date = true ∧ (ctxOf ctxPay).naudio ≤ (profile10 1 0).C ∧
    (let bad : List Byte := [0, 0, 0, 0, 0, 0, 0, 0, 1, 2, 0, 0, 70, 1, 1, 0, 0, 0];
      bad.length = 18 ∧ ¬ ((ctxOf bad).naudio = 0 ∨ (ctxOf bad).afreq = 0)) ∧
    ([] : List Byte).length ≠ 18 ∧ (4 : Byte).toNat ≥ 4 ∧
    (0 < (profile10 1 0).C ∧ 9 < (profile10 1 0).S ∧ 149 < 150 ∧ 79 < 80) := by decide

theorem witness_SkeletonIsRecognised :
    ∃ F, exec (.formatFrame ⟨byte 0, 0, ctxPay⟩) State.reset = .next (okState State.reset 0 F) := by
  obtain ⟨F, hF⟩ := formatFrame_ok (p := profile10 1 0) (x := ctxOf ctxPay) (by decide) (by decide) (by decide)
    (by decide) (by decide)
  refine ⟨F.toList, ?_⟩
  have hp : profileAt (byte 0) = some (profile10 1 0) := rfl
  have hc : (!ctxInRange (ctxOf ctxPay) || decide ((ctxOf ctxPay).naudio > (profile10 1 0).C)) = false := by decide
  show pureCommand (formatFrameReply ⟨byte 0, 0, ctxPay⟩) State.reset = _
  have hr : formatFrameReply ⟨byte 0, 0, ctxPay⟩ = .ok ⟨0, F.toList⟩ := by
    unfold formatFrameReply
    dsimp only
    rw [hp]
    dsimp only
    rw [if_neg (by decide), if_neg (by decide), hc, if_neg (by decide), hF]
  rw [hr]
  rfl

/-- A frame and a video unit of profile 0, and the refusals. -/
theorem witness_InjectVideoRule :
    cfg.prof[0]? = some (profile10 1 0) ∧ (List.replicate 120000 (0 : Byte)).length = (profile10 1 0).frameSize ∧
    (List.replicate 103950 (1 : Byte)).length = videoUnit (profile10 1 0) ∧
    ([] : List Byte).length ≠ (profile10 1 0).frameSize + videoUnit (profile10 1 0) ∧ (4 : Byte).toNat ≥ 4 ∧
    (0 < (profile10 1 0).C ∧ 9 < (profile10 1 0).S ∧ 134 < 135 ∧ 76 < 77) :=
  ⟨rfl, List.length_replicate, List.length_replicate.trans (by decide), by decide, by decide, by decide⟩

theorem witness_ExtractVideoRule :
    cfg.prof[1]? = some (profile12 1 0) ∧ (List.replicate 144000 (0 : Byte)).length = (profile12 1 0).frameSize ∧
    ([] : List Byte).length ≠ (profile12 1 0).frameSize ∧ (4 : Byte).toNat ≥ 4 :=
  ⟨rfl, List.length_replicate, by decide, by decide⟩

theorem witness_VideoRoundTrip :
    cfg.prof[3]? = some (profile12 2 4) ∧ (List.replicate 288000 (0 : Byte)).length = (profile12 2 4).frameSize ∧
    (List.replicate 249480 (1 : Byte)).length = videoUnit (profile12 2 4) :=
  ⟨rfl, List.length_replicate, List.length_replicate.trans (by decide)⟩

theorem exec_injectVideo (o : Operands) (s : State) :
    exec (.injectVideo o) s = pureCommand (injectVideoReply o) s := rfl

theorem exec_injectAudio (o : Operands) (s : State) :
    exec (.injectAudio o) s = pureCommand (injectAudioReply o) s := rfl

/-- Both injections answer payloads of the right length. -/
theorem injections_answer (pay : List Byte) :
    (pay.length = 447900 →
      ∃ F', exec (.injectVideo ⟨byte 2, 0, pay⟩) State.reset = .next (okState State.reset 0 F')) ∧
    (pay.length = 240002 →
      ∃ F', exec (.injectAudio ⟨byte 2, BitVec.ofNat 16 1, pay⟩) State.reset = .next (okState State.reset 0 F')) := by
  have hp : profileAt (byte 2) = some (profile10 2 4) := rfl
  constructor
  · intro h
    have hr : ∃ F', injectVideoReply ⟨byte 2, 0, pay⟩ = .ok ⟨0, F'⟩ := by
      unfold injectVideoReply
      dsimp only
      rw [hp]
      dsimp only
      rw [if_neg (by decide), if_neg (by simp only [lenOf, h]; decide)]
      exact ⟨_, rfl⟩
    obtain ⟨F', hF⟩ := hr
    exact ⟨F', by rw [exec_injectVideo, hF]; rfl⟩
  · intro h
    have hl : lenOf ⟨byte 2, BitVec.ofNat 16 1, pay⟩ = 240002 := h
    have hr : ∃ F', injectAudioReply ⟨byte 2, BitVec.ofNat 16 1, pay⟩ = .ok ⟨0, F'⟩ := by
      unfold injectAudioReply
      dsimp only
      rw [hp]
      dsimp only
      rw [hl, if_neg (by decide), if_neg (by decide), if_neg (by decide)]
      exact ⟨_, rfl⟩
    obtain ⟨F', hF⟩ := hr
    exact ⟨F', by rw [exec_injectAudio, hF]; rfl⟩

/-- The first and the last address of the two sets; and frames that the two injections answer. -/
theorem witness_PayloadAddressSets :
    (0 < (profile10 2 4).C ∧ 9 < (profile10 2 4).S ∧ 134 < 135 ∧ videoBlk (profile10 2 4) 1 9 134 + 79 = 239999) ∧
    (8 < 9 ∧ audioBlk (profile10 2 4) 1 0 0 + 8 = 120488) ∧
    cfg.prof[2]? = some (profile10 2 4) ∧ 1 < (profile10 2 4).C ∧ 0 < (profile10 2 4).C ∧
    (List.replicate 240000 (0 : Byte)).length = (profile10 2 4).frameSize ∧
    (∃ F', exec (.injectVideo ⟨byte 2, 0, List.replicate 240000 0 ++ List.replicate 207900 1⟩) State.reset
      = .next (okState State.reset 0 F')) ∧
    (∃ F', exec (.injectAudio ⟨byte 2, BitVec.ofNat 16 1, List.replicate 240000 0 ++ [1, 2]⟩) State.reset
      = .next (okState State.reset 0 F')) := by
  refine ⟨by decide, by decide, rfl, by decide, by decide, List.length_replicate, (injections_answer _).1 ?_, (injections_answer _).2 ?_⟩
  · rw [List.length_append, List.length_replicate, List.length_replicate]
  · rw [List.length_append, List.length_replicate]
    rfl

theorem witness_InjectionsCommute :
    profile10 2 4 ∈ cfg.prof ∧ (Array.replicate 240000 (0 : Byte)).size = (profile10 2 4).frameSize ∧
    (List.replicate 207900 (1 : Byte)).length = videoUnit (profile10 2 4) ∧ 0 < (profile10 2 4).C ∧
    1 < (profile10 2 4).C ∧ (0 : Nat) ≠ 1 :=
  ⟨by decide, Array.size_replicate, List.length_replicate.trans (by decide), by decide, by decide, by decide⟩

/-- The last slot of the longest profile, and a slot beyond. -/
theorem witness_ShuffleMapIsABijection :
    profile12 1 0 ∈ cfg.prof ∧ slotInRange (profile12 1 0) 11 8 35 ∧ slotInRange (profile12 1 0) 0 0 0 ∧
    3887 < (profile12 1 0).S * 9 * 36 :=
  ⟨by decide, ⟨by decide, by decide, by decide⟩, ⟨by decide, by decide, by decide⟩, by decide⟩

theorem witness_ShufAddrRule :
    cfg.prof[1]? = some (profile12 1 0) ∧ 0 < (profile12 1 0).C ∧ slotInRange (profile12 1 0) 11 8 35 ∧
    ¬ ((0 : Byte).toNat < (profile12 1 0).C ∧
      slotInRange (profile12 1 0) (11 : Byte).toNat (8 : Byte).toNat (36 : Byte).toNat) ∧
    ([] : List Byte).length ≠ 4 ∧ (4 : Byte).toNat ≥ 4 :=
  ⟨rfl, by decide, ⟨by decide, by decide, by decide⟩, fun h => absurd h.2.2.2 (by decide), by decide, by decide⟩

/-- The largest PCM buffer of profile 0, a live slot, and the refusals: short, odd, too long, no such channel. -/
theorem witness_InjectAudioRule :
    cfg.prof[0]? = some (profile10 1 0) ∧ 0 < (profile10 1 0).C ∧
    (List.replicate 120000 (0 : Byte)).length = (profile10 1 0).frameSize ∧
    (List.replicate 6480 (0 : Byte)).length % 2 = 0 ∧
    (List.replicate 6480 (0 : Byte)).length ≤ 2 * audioWords (profile10 1 0) ∧
    (slotInRange (profile10 1 0) 9 5 35 ∧ 2 * sidx (profile10 1 0) 9 5 35 < 6480) ∧
    ((0 : Half).toNat < (profile10 1 0).C ∧ ([] : List Byte).length < (profile10 1 0).frameSize) ∧
    ((List.replicate 120007 (0 : Byte)).length - (profile10 1 0).frameSize) % 2 = 1 ∧
    (List.replicate 126482 (0 : Byte)).length - (profile10 1 0).frameSize > 2 * audioWords (profile10 1 0) ∧
    (1 : Half).toNat ≥ (profile10 1 0).C ∧ (4 : Byte).toNat ≥ 4 := by
  refine ⟨rfl, by decide, List.length_replicate, ?_, ?_, ⟨⟨by decide, by decide, by decide⟩, by decide⟩, by decide,
    ?_, ?_, by decide, by decide⟩
  all_goals (rw [List.length_replicate]; try decide)

/-- The frame bytes of the four cases of EXTRACT_AUDIO. -/
theorem witness_extract_bytes :
    (payAt (testFrame 0x3F packLinear 120000) 4323 = 0x50 ∧
      (payAt (testFrame 0x3F packLinear 120000) 4327).toNat % 8 = 0 ∧
      (payAt (testFrame 0x3F packLinear 120000) 4327).toNat / 8 % 8 ≤ 2) ∧
    (payAt (testFrame 0x3F packNonlinear 120000) 4323 = 0x50 ∧
      (payAt (testFrame 0x3F packNonlinear 120000) 4327).toNat % 8 = 1 ∧
      (payAt (testFrame 0x3F packNonlinear 120000) 4327).toNat / 8 % 8 ≤ 2) ∧
    (payAt (testFrame 0x3F packUnsupported 120000) 4323 = 0x50 ∧
      (payAt (testFrame 0x3F packUnsupported 120000) 4327).toNat % 8 > 1) ∧
    (payAt (testFrame 0x3F [0x50, 0x56, 0x00, 0xC0, 0x98] 120000) 4323 = 0x50 ∧
      (payAt (testFrame 0x3F [0x50, 0x56, 0x00, 0xC0, 0x98] 120000) 4327).toNat % 8 ≤ 1 ∧
      (payAt (testFrame 0x3F [0x50, 0x56, 0x00, 0xC0, 0x98] 120000) 4327).toNat / 8 % 8 > 2) ∧
    payAt (testFrame 0x3F [0xFF, 0xFF, 0xFF, 0xFF, 0xFF] 120000) 4323 ≠ 0x50 := by
  have h0 : ∀ q : List Byte, q.length = 5 → payAt (testFrame 0x3F q 120000) 4323 = payAt q 0 :=
    fun q hq => testFrame_pack (i := 0) hq (by decide)
  have h4 : ∀ q : List Byte, q.length = 5 → payAt (testFrame 0x3F q 120000) 4327 = payAt q 4 :=
    fun q hq => testFrame_pack (i := 4) hq (by decide)
  rw [h0 packLinear rfl, h4 packLinear rfl, h0 packNonlinear rfl, h4 packNonlinear rfl, h0 packUnsupported rfl,
    h4 packUnsupported rfl, h0 [0x50, 0x56, 0x00, 0xC0, 0x98] rfl, h4 [0x50, 0x56, 0x00, 0xC0, 0x98] rfl,
    h0 [0xFF, 0xFF, 0xFF, 0xFF, 0xFF] rfl]
  decide

theorem witness_ExtractAudioLinear :
    cfg.prof[0]? = some (profile10 1 0) ∧
    (testFrame 0x3F packLinear 120000).length = (profile10 1 0).frameSize ∧
    (payAt (testFrame 0x3F packLinear 120000) 4323 = 0x50 ∧
      (payAt (testFrame 0x3F packLinear 120000) 4327).toNat % 8 = 0 ∧
      (payAt (testFrame 0x3F packLinear 120000) 4327).toNat / 8 % 8 ≤ 2) :=
  ⟨rfl, testFrame_length rfl (by decide), witness_extract_bytes.1⟩

theorem witness_ExtractAudioNonlinear :
    cfg.prof[0]? = some (profile10 1 0) ∧
    (testFrame 0x3F packNonlinear 120000).length = (profile10 1 0).frameSize ∧
    (payAt (testFrame 0x3F packNonlinear 120000) 4323 = 0x50 ∧
      (payAt (testFrame 0x3F packNonlinear 120000) 4327).toNat % 8 = 1 ∧
      (payAt (testFrame 0x3F packNonlinear 120000) 4327).toNat / 8 % 8 ≤ 2) :=
  ⟨rfl, testFrame_length rfl (by decide), witness_extract_bytes.2.1⟩

theorem witness_ExtractAudioOtherwise :
    cfg.prof[0]? = some (profile10 1 0) ∧
    (∀ q : List Byte, q.length = 5 → (testFrame 0x3F q 120000).length = (profile10 1 0).frameSize) ∧
    payAt (testFrame 0x3F [0xFF, 0xFF, 0xFF, 0xFF, 0xFF] 120000) 4323 ≠ 0x50 ∧
    (payAt (testFrame 0x3F packUnsupported 120000) 4323 = 0x50 ∧
      (payAt (testFrame 0x3F packUnsupported 120000) 4327).toNat % 8 > 1) ∧
    ([] : List Byte).length ≠ (profile10 1 0).frameSize ∧ (4 : Byte).toNat ≥ 4 :=
  ⟨rfl, fun _ h => testFrame_length h (by decide), witness_extract_bytes.2.2.2.2, witness_extract_bytes.2.2.1,
    by decide, by decide⟩

theorem noMuteWord_replicate (n : Nat) : noMuteWord (List.replicate n 1) := by
  intro w hw
  rw [List.length_replicate] at hw
  intro h
  have h1 : payAt (List.replicate n 1) (2 * w) = 1 := payAt_replicate 1 (by omega)
  exact absurd (h1.symm.trans h.1) (by decide)

theorem witness_AudioRoundTrip :
    profile12 2 4 ∈ cfg.prof ∧ 1 < (profile12 2 4).C ∧
    (Array.replicate 288000 (0 : Byte)).size = (profile12 2 4).frameSize ∧
    (List.replicate 7680 (1 : Byte)).length % 2 = 0 ∧
    (∃ d ∈ (profile12 2 4).dist, (List.replicate 7680 (1 : Byte)).length ≤ 4 * d) ∧
    noMuteWord (List.replicate 7680 1) ∧ payAt [0x00, 0x80] 0 = 0x00 ∧ payAt [0x00, 0x80] 1 = 0x80 := by
  refine ⟨by decide, by decide, Array.size_replicate, ?_, ⟨1920, by decide, ?_⟩, noMuteWord_replicate _, rfl, rfl⟩
  all_goals (rw [List.length_replicate]; try decide)

theorem witness_Unpack12Rule : ([1, 2, 3, 4] : List Byte).length ≠ 3 ∧ (1 : Byte) ≠ 0 := by decide

theorem witness_Expand12Rule :
    4095 < 4096 ∧ (4096 : Half).toNat ≥ 4096 ∧ ((4095 : Half).toNat < 4096 ∧ ([1] : List Byte) ≠ []) ∧
    ((0x801 : BitVec 12) ≠ 0x800 ∧ (0x801 : BitVec 12).toInt < (0x7FF : BitVec 12).toInt) := by decide

theorem witness_OpenMuxCompletes :
    cfg.prof[3]? = some (profile12 2 4) ∧ State.reset.mode = .closed ∧ 7 ≤ 7 ∧ 2 ≤ (profile12 2 4).C :=
  ⟨rfl, rfl, by decide, by decide⟩

/-- One payload for each clause, from CLOSED with `A = B = 0`: 11 bytes; three streams; one stream without its
descriptor; reserved byte 9; aspect 8; video codec 1. -/
theorem witness_OpenMuxRejects :
    (1 : Byte) ≠ 0 ∧ (0x100 : Half) ≠ 0 ∧ State.reset.mode = .closed ∧ (List.replicate 11 (0 : Byte)).length < 12 ∧
    (let x : List Byte := [0, 1, 10, 0, 0xC0, 0xD4, 1, 0, 3, 0, 0, 0];
      12 ≤ x.length ∧ (payAt x 8).toNat > 2) ∧
    (let x : List Byte := [0, 1, 10, 0, 0xC0, 0xD4, 1, 0, 1, 0, 0, 0];
      12 ≤ x.length ∧ (payAt x 8).toNat ≤ 2 ∧ x.length ≠ 12 + 8 * (payAt x 8).toNat) ∧
    (let x : List Byte := [0, 1, 10, 0, 0xC0, 0xD4, 1, 0, 0, 1, 0, 0];
      x.length = 12 + 8 * (payAt x 8).toNat ∧ payAt x 9 ≠ 0) ∧
    (let x : List Byte := [0, 1, 10, 8, 0xC0, 0xD4, 1, 0, 0, 0, 0, 0];
      x.length = 12 + 8 * (payAt x 8).toNat ∧ payAt x 9 = 0 ∧ payAt x 10 = 0 ∧ payAt x 11 = 0 ∧
        (payAt x 3).toNat > 7) ∧
    (let x : List Byte := [1, 1, 10, 7, 0xC0, 0xD4, 1, 0, 0, 0, 0, 0];
      x.length = 12 + 8 * (payAt x 8).toNat ∧ payAt x 9 = 0 ∧ payAt x 10 = 0 ∧ payAt x 11 = 0 ∧
        (payAt x 3).toNat ≤ 7 ∧ ¬ payAt x 0 = 0) := by decide

/-- READY; not ready for want of audio; ready; the refusals. -/
theorem witness_PushVideoRule :
    (StateInv readyState ∧ readyState.mode = .mux ∧ readyState.mstate = .ready) ∧
    (List.replicate 103950 (0 : Byte)).length = videoUnit (sessionProfile muxed) ∧
    (StateInv muxed ∧ muxed.mode = .mux ∧ muxed.mstate ≠ .ready ∧ ¬ audioReady muxed (fun _ => 0)) ∧
    (StateInv pendingState ∧ pendingState.mode = .mux ∧ pendingState.mstate ≠ .ready ∧
      audioReady pendingState (fun _ => 0)) ∧
    (1 : Byte) ≠ 0 ∧ ([] : List Byte).length ≠ videoUnit (sessionProfile muxed) :=
  ⟨⟨witness_inv_ready, rfl, rfl⟩, List.length_replicate.trans (by decide),
    ⟨witness_inv_muxed, rfl, nofun, witness_audio.2.1⟩, ⟨witness_inv_pending, rfl, nofun, witness_audio.1⟩,
    by decide, by decide⟩

/-- The session of `muxed` with a video unit pending: audio is all it lacks. -/
def waitingState : State := { muxed with vpend := true, vbuf := Memory.ofBytes (List.replicate 103950 0) }

theorem witness_inv_waiting : StateInv waitingState :=
  muxed_inv 0 .accumulating true _ [] [] rfl rfl (by decide)

/-- One byte more than fits; READY; one byte less than the frame needs; exactly what it needs; no such stream, and a
session without streams. -/
theorem witness_PushAudioRule :
    (0 : Byte).toNat < muxed.naudio.toNat ∧
    cfg.fifoCap < (fifoOf muxed 0).length + (List.replicate (cfg.fifoCap + 1) (0 : Byte)).length ∧
    (StateInv readyState ∧ readyState.mstate = .ready ∧ (0 : Byte).toNat < readyState.naudio.toNat ∧
      (fifoOf readyState 0).length + ([] : List Byte).length ≤ cfg.fifoCap) ∧
    (StateInv waitingState ∧ waitingState.mode = .mux ∧ waitingState.mstate ≠ .ready ∧ waitingState.vpend = true ∧
      ¬ audioReady waitingState (fun i => if i = 0 then (List.replicate 6407 (1 : Byte)).length else 0) ∧
      audioReady waitingState (fun i => if i = 0 then (List.replicate 6408 (1 : Byte)).length else 0) ∧
      (fifoOf waitingState 0).length + (List.replicate 6408 (1 : Byte)).length ≤ cfg.fifoCap) ∧
    (1 : Byte).toNat ≥ muxed.naudio.toNat ∧
    (({ muxed with naudio := 0 } : State).mode = .mux ∧
      (0 : Byte).toNat ≥ ({ muxed with naudio := 0 } : State).naudio.toNat) := by
  rw [List.length_replicate, List.length_replicate, List.length_replicate]
  refine ⟨by decide, ?_, ⟨witness_inv_ready, rfl, by decide, ?_⟩,
    ⟨witness_inv_waiting, rfl, nofun, rfl, witness_audio.2.2.2, witness_audio.2.2.1, ?_⟩, by decide, rfl, by decide⟩
  · show cfg.fifoCap < 0 + (cfg.fifoCap + 1)
    omega
  · show 0 + 0 ≤ 7680 + Config.fifoSlack
    omega
  · show 0 + 6408 ≤ 7680 + Config.fifoSlack
    omega

/-- READY; EMITTED with nothing pending; everything there but not assembled; the refusals. -/
theorem witness_TryEmitFrameRule :
    (StateInv readyState ∧ readyState.mode = .mux ∧ readyState.mstate = .ready) ∧
    (StateInv emittedState ∧ emittedState.mstate ≠ .ready ∧
      ¬ (emittedState.vpend = true ∧ audioReady emittedState (fun _ => 0))) ∧
    (StateInv pendingState ∧ pendingState.mstate ≠ .ready ∧ pendingState.vpend = true ∧
      audioReady pendingState (fun _ => 0)) ∧
    (1 : Byte) ≠ 0 ∧ ([1] : List Byte) ≠ [] :=
  ⟨⟨witness_inv_ready, rfl, rfl⟩, ⟨witness_inv_emitted, nofun, nofun⟩,
    ⟨witness_inv_pending, nofun, rfl, witness_audio.1⟩, by decide, by decide⟩

/-- A refusal, a NOT_READY and a CLOSE in a mux session. -/
theorem witness_MuxStateTransitions :
    StateInv muxed ∧ muxed.mode = .mux ∧ formatOf (.tryEmitFrame ⟨0, 0, []⟩) = .cmd ∧
    exec (.tryEmitFrame ⟨0, 0, []⟩) muxed = .next muxed.respondNotReady ∧
    muxed.respondNotReady.response = some ⟨.notReady, 0, 0, []⟩ ∧
    ¬ reportsCondition ⟨.notReady, 0, 0, []⟩ ∧
    exec (.close ⟨0, 0, []⟩) muxed = .next (okState State.reset 0 []) ∧
    exec (.feedFrame ⟨0, 0, []⟩) muxed = .next (endedState muxed .refused 0x11) := by
  refine ⟨witness_inv_muxed, rfl, rfl, ?_, rfl, ?_, rfl, rfl⟩
  · rfl
  · rintro (h | h | h) <;> cases h

theorem witness_FifoEquivalence :
    StateInv waitingState ∧ waitingState.mode = .mux ∧ (0 : Byte).toNat < waitingState.naudio.toNat ∧
    ([[1], [], [2, 3]] : List (List Byte)) ≠ [] ∧
    (fifoOf waitingState 0).length + ([[1], [], [2, 3]] : List (List Byte)).flatten.length ≤ cfg.fifoCap := by
  refine ⟨witness_inv_waiting, rfl, by decide, by decide, ?_⟩
  show 0 + 3 ≤ 7680 + Config.fifoSlack
  omega

theorem witness_SetRecdtRule : muxed.mode = .mux := rfl

/-- A configuration that is well-formed, with no profile, and two that are not: a fixed slot without its kind, and a
FIFO too small. -/
theorem witness_DefaultConfigurationWellFormed :
    ({ cfg with prof := [] } : Cfg).WellFormed ∧ ¬ ({ cfg with audk := [] } : Cfg).WellFormed ∧
    ¬ ({ cfg with fifoCap := 7679 } : Cfg).WellFormed := by
  refine ⟨⟨nofun, nofun, nofun, by decide, nofun⟩, fun h => ?_, fun h => ?_⟩
  · exact absurd h.2.2.2.1.1 (by decide)
  · exact absurd (h.2.2.2.2 (profile12 1 0) (by decide) 1920 (by decide)) (by decide)

/-- R7, R354: the machine of a configuration that is not well-formed is refused, of one that is it is built; the
operations use the parameters they are given (another muted code, another filler). -/
theorem test_construct :
    (construct { cfg with audk := [] }).isOk = false ∧ (construct { cfg with prof := [] }).isOk = true ∧
    decode12 0x7FF { cfg with mute12 := 0x7FF } = 0 ∧
    blankFrame { profile10 1 0 with frameSize := 2 } { cfg with fill := 0 } = #[0, 0] := by decide

/-- R24, R25, V61: `MSTATE` and `ABYTES` as they are read. -/
theorem test_read_outside_mode :
    ({ muxed with mode := .demux, mstate := .ready, abytes := 6408 } : State).readMstate = .accumulating ∧
    ({ muxed with abytes := 6408 } : State).readAbytes = 0 ∧
    ({ State.reset with mode := .failed, abytes := 6408 } : State).readAbytes = 6408 := by decide

/-- R351: a reset while TRY_EMIT_FRAME executes. -/
theorem test_reset_during :
    step { muxed with inbox := [.resetDuring .cmd [0x04, 0, 0, 0, 0, 0, 0, 0], .hardReset] }
      = .next { State.reset with inbox := [.hardReset] } := rfl

theorem witness_ReadStatusRule : (1 : Half) ≠ 0 ∧ ([1] : List Byte) ≠ [] := by decide

/-- A linear frame with two bytes after it, a frame without audio, and a session that has its profile. -/
theorem witness_FeedFrameDecodes :
    demuxed.mode = .demux ∧ cfg.prof[0]? = some (profile10 1 0) ∧
    (testFrame 0x3F packLinear 120000).length = (profile10 1 0).frameSize ∧
    detectProfile (testFrame 0x3F packLinear 120000) = some 0 ∧
    (({ demuxed with pvalid := true } : State).pvalid = true → 0 = demuxed.profile.toNat) ∧
    ((payAt (testFrame 0x3F packLinear 120000) 4327).toNat % 8 ≤ 1 ∧
      (payAt (testFrame 0x3F packLinear 120000) 4327).toNat / 8 % 8 ≤ 2) ∧
    payAt (testFrame 0x3F [0xFF, 0xFF, 0xFF, 0xFF, 0xFF] 120000) 4323 ≠ 0x50 :=
  ⟨rfl, rfl, testFrame_length rfl (by decide), (testFrame_detect _ _).1, fun _ => rfl,
    ⟨le_of_eq_of_le witness_extract_bytes.1.2.1 (by decide), witness_extract_bytes.1.2.2⟩,
    witness_extract_bytes.2.2.2.2⟩

/-- 479 bytes; no known profile; another profile; a frame that is too short; a fatal audio source pack. -/
theorem witness_FeedFrameStops :
    demuxed.mode = .demux ∧ (List.replicate 479 (0 : Byte)).length < 480 ∧
    480 ≤ (testFrame 0x00 packLinear 4328).length ∧ detectProfile (testFrame 0x00 packLinear 4328) = none ∧
    (detectProfile (testFrame 0xBF packLinear 4328) = some 1 ∧ cfg.prof[1]? = some (profile12 1 0) ∧
      1 ≠ ({ demuxed with pvalid := true } : State).profile.toNat) ∧
    (detectProfile (testFrame 0x3F packLinear 4328) = some 0 ∧
      (testFrame 0x3F packLinear 4328).length < (profile10 1 0).frameSize) ∧
    (detectProfile (testFrame 0x3F packUnsupported 120000) = some 0 ∧
      (profile10 1 0).frameSize ≤ (testFrame 0x3F packUnsupported 120000).length) := by
  refine ⟨rfl, ?_, ?_, (testFrame_detect _ _).2.2, ⟨(testFrame_detect _ _).2.1, rfl, by decide⟩,
    ⟨(testFrame_detect _ _).1, ?_⟩, (testFrame_detect _ _).1, ?_⟩
  · rw [List.length_replicate]
    decide
  all_goals
    rw [testFrame_length rfl (by decide)]
    decide

theorem witness_AudioPresentationTime :
    (0 < (⟨1, 0, 0, 6408⟩ : AudioParams).ns ∧ (⟨1, 0, 0, 6408⟩ : AudioParams).smp = 0) ∧
    (0 < (⟨2, 2, 1, 4320⟩ : AudioParams).ns ∧ (⟨2, 2, 1, 4320⟩ : AudioParams).smp ≤ 2) ∧
    (⟨0, 0, 0, 0⟩ : AudioParams).ns = 0 := by decide

theorem witness_EveryStepKeepsTheInvariant :
    StateInv pendingState ∧ step pendingState = .next pendingState ∧ StateInv readyState := by
  exact ⟨witness_inv_pending, rfl, witness_inv_ready⟩

theorem witness_NoStepFaults : StateInv readyState ∧ StateInv emittedState :=
  ⟨witness_inv_ready, witness_inv_emitted⟩

/-- `pendingState` with a word equal to `MUTE16` at the head of its audio. -/
def mutedState : State := { pendingState with fifo0 := 0x00 :: 0x80 :: List.replicate 6406 1 }

theorem witness_inv_muted : StateInv mutedState :=
  muxed_inv 0 .accumulating true _ [] (0x00 :: 0x80 :: List.replicate 6406 1) rfl rfl
    (by rw [List.length_cons, List.length_cons, List.length_replicate]; decide)

theorem witness_muted :
    audioReady mutedState (fun _ => 0) ∧
    ¬ noMuteWord ((fifoOf mutedState 0).take (req (sessionProfile mutedState) mutedState.frames.toNat)) := by
  have hr : req (sessionProfile mutedState) mutedState.frames.toNat = 6408 := by
    show req (sessionProfile muxed) muxed.frames.toNat = 6408
    decide
  have hf : fifoOf mutedState 0 = 0x00 :: 0x80 :: List.replicate 6406 1 := rfl
  constructor
  · intro i hi
    have h0 : i = 0 := Nat.lt_one_iff.1 hi
    subst h0
    rw [hr]
    rw [hf, List.length_cons, List.length_cons, List.length_replicate]
    decide
  · rw [hr, hf, List.take_succ_cons, List.take_succ_cons]
    intro h
    refine h 0 ?_ ⟨rfl, rfl⟩
    rw [List.length_cons, List.length_cons]
    omega

/-- The session of `pendingState`: the pending unit assembled by TRY_EMIT_FRAME; a PUSH_AUDIO to `waitingState` that
leads to it; its frame READY; audio without a word equal to `MUTE16`, and with one. -/
theorem witness_MuxDemuxRoundTrip :
    StateInv pendingState ∧ pendingState.mode = .mux ∧
    (pendingState.mstate ≠ .ready ∧ pendingState.vpend = true ∧
      pendingState.vbuf = Memory.ofBytes (List.replicate 103950 0)) ∧
    (StateInv waitingState ∧ waitingState.mode = .mux ∧ waitingState.mstate ≠ .ready ∧ waitingState.vpend = true ∧
      waitingState.vbuf = Memory.ofBytes (List.replicate 103950 0) ∧ (0 : Byte).toNat < waitingState.naudio.toNat ∧
      pendingState = { waitingState with fifo0 := waitingState.fifo0 ++ List.replicate 6408 1 }) ∧
    (∃ F0, formatFrame (sessionProfile pendingState) (sessionCtx pendingState) = .ok F0 ∧
      ∃ t : State, t.mode = .mux ∧ t.mstate = .ready ∧ t.profile = pendingState.profile ∧
        t.framebuf = Memory.ofBytes (frameFrom pendingState F0 (List.replicate 103950 0))) ∧
    (List.replicate 103950 (0 : Byte)).length = videoUnit (sessionProfile pendingState) ∧
    audioReady pendingState (fun _ => 0) ∧
    (∀ i < pendingState.naudio.toNat, noMuteWord ((fifoOf pendingState i).take
      (req (sessionProfile pendingState) pendingState.frames.toNat))) ∧
    (StateInv mutedState ∧ mutedState.mode = .mux ∧ audioReady mutedState (fun _ => 0) ∧
      (0 : Nat) < mutedState.naudio.toNat ∧
      ¬ noMuteWord ((fifoOf mutedState 0).take (req (sessionProfile mutedState) mutedState.frames.toNat))) ∧
    demuxed.mode = .demux ∧ (demuxed.pvalid = true → demuxed.profile = pendingState.profile) := by
  obtain ⟨F0, hF⟩ := session_format witness_inv_pending rfl
  refine ⟨witness_inv_pending, rfl, ⟨nofun, rfl, rfl⟩, ⟨witness_inv_waiting, rfl, nofun, rfl, rfl, by decide, rfl⟩,
    ⟨F0, hF, ?_⟩,
    List.length_replicate.trans (by decide), witness_audio.1, ?_,
    ⟨witness_inv_muted, rfl, witness_muted.1, by decide, witness_muted.2⟩, rfl, nofun⟩
  · generalize Memory.ofBytes (frameFrom pendingState F0 _) = fb
    exact ⟨{ pendingState with mstate := .ready, framebuf := fb }, rfl, rfl, rfl, rfl⟩
  intro i hi
  have h0 : i = 0 := Nat.lt_one_iff.1 hi
  subst h0
  simp only [fifoOf, pendingState, if_true, List.take_replicate]
  exact noMuteWord_replicate _

end Sys2Proof.Tests
end

section
/-! PROOFS. The statements about the scope of the model: one step, the shuffle map, and which configurations a machine
is built of. -/

namespace Sys2Proof.Machine

open Sys2Proof.Safety

/-! ### One step (R10, R31, R342) -/

/-- Nothing sent: the machine is idle. -/
theorem step_of_inbox_nil {s : State} (h : s.inbox = []) : step s = .next s := by
  simp only [step, cycle, cycleBy, h]

/-- A transfer that is sent first is taken out of the input and run. -/
theorem step_of_inbox_transfer {s : State} {f : Format} {bs : List Byte} {rest : List HostEvent}
    (h : s.inbox = .transfer f bs :: rest) : step s = runTransfer f bs { s with inbox := rest } := by
  simp only [step, cycle, cycleBy, h, runTransfer]

theorem runTransfer_of_decodeAs_ok {f : Format} {bs : List Byte} {i : Instr} (h : decodeAs f bs = .ok i) (s : State) :
    runTransfer f bs s = exec i (arrive f bs s) := by
  simp only [runTransfer, runTransferBy, h]

/-- Only a command packet writes the operand registers (R31). -/
theorem arrive_of_ne_cmd {f : Format} (h : f ≠ .cmd) (bs : List Byte) (s : State) : arrive f bs s = s := by
  cases f with
  | cmd => exact absurd rfl h
  | pack | blkid | subid | resp | code => rfl

/-! ### The shuffle map of the default configuration (R46, R230) -/

/-- The segment whose row of the shuffle table holds an entry. -/
def entrySegment (p : Profile) (e : Nat) : Nat := p.shuf.findIdx (·.contains e)

/-- The place of an entry in its row of the shuffle table: the audio block. -/
def entryBlock (p : Profile) (e : Nat) : Nat := (p.shuf.getD (entrySegment p e) []).idxOf e

theorem shufEntry_lt : ∀ p ∈ cfg.prof, ∀ s < p.S, ∀ g < 9, shufEntry p s g < p.S * 9 := by decide

/-- No two places of a shuffle table hold the same entry: each entry is found at its own place. -/
theorem entry_place_shufEntry : ∀ p ∈ cfg.prof, ∀ s < p.S, ∀ g < 9,
    entrySegment p (shufEntry p s g) = s ∧ entryBlock p (shufEntry p s g) = g := by decide

/-- Every number below `9 * p.S` is an entry of the shuffle table. -/
theorem shufEntry_entry_place : ∀ p ∈ cfg.prof, ∀ e < p.S * 9,
    entrySegment p e < p.S ∧ entryBlock p e < 9 ∧ shufEntry p (entrySegment p e) (entryBlock p e) = e := by decide

theorem slotStep_eq : ∀ p ∈ cfg.prof, p.stride = 1 ∧ p.slotStep = p.S * 9 := by decide

/-- The word index has the table's entry and the slot number as its digits to the base `9 * p.S`. -/
theorem sidx_eq {p : Profile} (hp : p ∈ cfg.prof) (s g k : Nat) :
    sidx p s g k = shufEntry p s g + k * (p.S * 9) := by
  obtain ⟨hstride, hstep⟩ := slotStep_eq p hp
  rw [sidx, hstride, hstep, Nat.mul_one]

theorem sidx_mod {p : Profile} (hp : p ∈ cfg.prof) {s g k : Nat} (h : slotInRange p s g k) :
    sidx p s g k % (p.S * 9) = shufEntry p s g := by
  obtain ⟨hs, hg, -⟩ := h
  rw [sidx_eq hp, Nat.add_mul_mod_self_right, Nat.mod_eq_of_lt (shufEntry_lt p hp s hs g hg)]

theorem sidx_div {p : Profile} (hp : p ∈ cfg.prof) {s g k : Nat} (h : slotInRange p s g k) :
    sidx p s g k / (p.S * 9) = k := by
  obtain ⟨hs, hg, -⟩ := h
  have hlt := shufEntry_lt p hp s hs g hg
  rw [sidx_eq hp, Nat.add_mul_div_right _ _ (by omega), Nat.div_eq_of_lt hlt, Nat.zero_add]

theorem sidx_lt {p : Profile} (hp : p ∈ cfg.prof) {s g k : Nat} (h : slotInRange p s g k) :
    sidx p s g k < p.S * 9 * 36 := by
  have hdiv : sidx p s g k / (p.S * 9) < 36 := (sidx_div hp h).trans_lt h.2.2
  have hpos : 0 < p.S * 9 := by have hs := h.1; omega
  rw [Nat.mul_comm]
  exact (Nat.div_lt_iff_lt_mul hpos).1 hdiv

theorem sidx_injective {p : Profile} (hp : p ∈ cfg.prof) {s g k s' g' k' : Nat} (h : slotInRange p s g k)
    (h' : slotInRange p s' g' k') (heq : sidx p s g k = sidx p s' g' k') : s = s' ∧ g = g' ∧ k = k' := by
  have hentry : shufEntry p s g = shufEntry p s' g' := by rw [← sidx_mod hp h, ← sidx_mod hp h', heq]
  have hk : k = k' := by rw [← sidx_div hp h, ← sidx_div hp h', heq]
  obtain ⟨hseg, hblk⟩ := entry_place_shufEntry p hp s h.1 g h.2.1
  obtain ⟨hseg', hblk'⟩ := entry_place_shufEntry p hp s' h'.1 g' h'.2.1
  rw [← hentry] at hseg' hblk'
  exact ⟨hseg.symm.trans hseg', hblk.symm.trans hblk', hk⟩

theorem sidx_surjective {p : Profile} (hp : p ∈ cfg.prof) {w : Nat} (hw : w < p.S * 9 * 36) :
    ∃ s g k, slotInRange p s g k ∧ sidx p s g k = w := by
  have hpos : 0 < p.S * 9 := by omega
  obtain ⟨hseg, hblk, hentry⟩ := shufEntry_entry_place p hp (w % (p.S * 9)) (Nat.mod_lt w hpos)
  refine ⟨_, _, w / (p.S * 9), ⟨hseg, hblk, Nat.div_lt_of_lt_mul hw⟩, ?_⟩
  rw [sidx_eq hp, hentry, Nat.mod_add_div']

/-! ### The test of R7 decides R7 -/

/-- The slots of a channel are the product of the three ranges (R230). -/
theorem slots_eq_product (p : Profile) : slots p = List.range p.S ×ˢ (List.range 9 ×ˢ List.range 36) := by
  simp only [slots, SProd.sprod, List.product, List.map_flatMap, List.map_map, Function.comp_def]

theorem mem_slots {p : Profile} {s g k : Nat} : (s, g, k) ∈ slots p ↔ slotInRange p s g k := by
  simp only [slots_eq_product, List.mem_product, List.mem_range, slotInRange]

theorem slots_nodup (p : Profile) : (slots p).Nodup :=
  slots_eq_product p ▸ List.nodup_range.product (List.nodup_range.product List.nodup_range)

theorem slotWords_eq_map (p : Profile) : p.slotWords = (slots p).map fun x => sidx p x.1 x.2.1 x.2.2 := by
  simp only [Profile.slotWords, slots, List.map_flatMap, List.map_map, Function.comp_def, sidx, shufEntry]

theorem mem_slotWords {p : Profile} {w : Nat} :
    w ∈ p.slotWords ↔ ∃ s g k, s < p.S ∧ g < 9 ∧ k < 36 ∧ sidx p s g k = w := by
  simp only [slotWords_eq_map, List.mem_map, Prod.exists, mem_slots, slotInRange, and_assoc]

/-- The words of the slots are without repeats exactly when the shuffle map is injective. -/
theorem slotWords_nodup_iff (p : Profile) :
    p.slotWords.Nodup ↔ ∀ s g k s' g' k', s < p.S → g < 9 → k < 36 → s' < p.S → g' < 9 → k' < 36 →
      sidx p s g k = sidx p s' g' k' → s = s' ∧ g = g' ∧ k = k' := by
  rw [slotWords_eq_map, List.nodup_map_iff_inj_on (slots_nodup p)]
  constructor
  · intro h s g k s' g' k' hs hg hk hs' hg' hk' heq
    simpa using h (s, g, k) (mem_slots.2 ⟨hs, hg, hk⟩) (s', g', k') (mem_slots.2 ⟨hs', hg', hk'⟩) heq
  · rintro h ⟨s, g, k⟩ hx ⟨s', g', k'⟩ hy heq
    obtain ⟨hs, hg, hk⟩ := mem_slots.1 hx
    obtain ⟨hs', hg', hk'⟩ := mem_slots.1 hy
    obtain ⟨rfl, rfl, rfl⟩ := h s g k s' g' k' hs hg hk hs' hg' hk' heq
    rfl

theorem sizesOk_iff (K : Cfg) :
    K.sizesOk = true ↔ ∀ p ∈ K.prof, p.frameSize = p.C * p.S * K.segBlocks * K.block := by
  simp only [Cfg.sizesOk, List.all_eq_true, beq_iff_eq]

theorem deltasOk_iff (K : Cfg) :
    K.deltasOk = true ↔ ∀ p ∈ K.prof, p.dist.length = K.seqLen ∧
      ∀ d ∈ p.dist, p.mins.getD 0 0 ≤ d ∧ d - p.mins.getD 0 0 ≤ 63 := by
  simp only [Cfg.deltasOk, List.all_eq_true, Bool.and_eq_true, beq_iff_eq, decide_eq_true_eq]

theorem shuffleOk_iff (K : Cfg) :
    K.shuffleOk = true ↔ ∀ p ∈ K.prof,
      (∀ s g k s' g' k', s < p.S → g < 9 → k < 36 → s' < p.S → g' < 9 → k' < 36 →
        sidx p s g k = sidx p s' g' k' → s = s' ∧ g = g' ∧ k = k') ∧
      (∀ w, (∃ d ∈ p.dist, w < 2 * d) → ∃ s g k, s < p.S ∧ g < 9 ∧ k < 36 ∧ sidx p s g k = w) := by
  simp only [Cfg.shuffleOk, List.all_eq_true, Bool.and_eq_true, decide_eq_true_eq, slotWords_nodup_iff,
    List.contains_iff_mem, mem_slotWords, List.mem_range]
  refine forall₂_congr fun p _ => and_congr_right fun _ => ?_
  exact ⟨fun h w ⟨d, hd, hw⟩ => h d hd w hw, fun h d hd w hw => h w ⟨d, hd, hw⟩⟩

theorem fixedSlotsOk_iff (K : Cfg) :
    K.fixedSlotsOk = true ↔ (K.audk.getD 0 []).getD 3 .nopack = .audioSource ∧
      (K.audk.getD 0 []).getD 4 .nopack = .audioControl ∧
      (K.auxk.getD 0 []).getD 9 .nopack = .videoSource ∧
      (K.auxk.getD 0 []).getD 10 .nopack = .videoControl := by
  simp only [Cfg.fixedSlotsOk, Bool.and_eq_true, beq_iff_eq, and_assoc]

theorem capacityOk_iff (K : Cfg) : K.capacityOk = true ↔ ∀ p ∈ K.prof, ∀ d ∈ p.dist, 4 * d ≤ K.fifoCap := by
  simp only [Cfg.capacityOk, List.all_eq_true, decide_eq_true_eq]

/-- The test of R7 is true of exactly the well-formed configurations. -/
theorem check_iff_wellFormed (K : Cfg) : K.check = true ↔ K.WellFormed := by
  simp only [Cfg.check, Bool.and_eq_true, sizesOk_iff, deltasOk_iff, fixedSlotsOk_iff, capacityOk_iff, shuffleOk_iff]
  constructor
  · rintro ⟨⟨⟨⟨hsize, hdelta⟩, hfixed⟩, hcap⟩, hshuf⟩
    exact ⟨hsize, hdelta, hshuf, hfixed, hcap⟩
  · rintro ⟨hsize, hdelta, hshuf, hfixed, hcap⟩
    exact ⟨⟨⟨⟨hsize, hdelta⟩, hfixed⟩, hcap⟩, hshuf⟩

/-- A machine is built of a well-formed configuration, and it runs under that configuration. -/
theorem construct_of_wellFormed {K : Cfg} (h : K.WellFormed) :
    construct K = .ok
      { State := State, Fault := Fault, Refusal := Refusal, step := stepWith K, reset := State.reset } := by
  rcases construct_cases K with ⟨-, hok⟩ | ⟨hcheck, -⟩
  · exact hok
  · simp [(check_iff_wellFormed K).2 h] at hcheck

theorem construct_of_not_wellFormed {K : Cfg} (h : ¬ K.WellFormed) : construct K = .error .illFormed := by
  rcases construct_cases K with ⟨hcheck, -⟩ | ⟨-, herr⟩
  · exact absurd ((check_iff_wellFormed K).1 hcheck) h
  · exact herr

/-- Every word of a frame's PCM has a slot: no frame of a default profile has more words than the channel has slots. -/
theorem dist_le_slots : ∀ p ∈ cfg.prof, ∀ d ∈ p.dist, 2 * d ≤ p.S * 9 * 36 := by decide

/-- `FIFO_CAP` is at least its least legal value, whatever the open constant is (R6). -/
theorem dist_le_fifoCap {p : Profile} (hp : p ∈ cfg.prof) {d : Nat} (hd : d ∈ p.dist) : 4 * d ≤ cfg.fifoCap :=
  have hleast : ∀ p ∈ profiles, ∀ d ∈ p.dist, 4 * d ≤ 7680 := by decide
  (hleast p hp d hd).trans (Nat.le_add_right 7680 Config.fifoSlack)

/-- The default configuration is well-formed (R7). -/
theorem cfg_wellFormed : cfg.WellFormed := by
  refine ⟨by decide, by decide, fun p hp => ⟨?_, ?_⟩, by decide, fun p hp d hd => dist_le_fifoCap hp hd⟩
  · intro s g k s' g' k' hs hg hk hs' hg' hk' heq
    exact sidx_injective hp ⟨hs, hg, hk⟩ ⟨hs', hg', hk'⟩ heq
  · rintro w ⟨d, hd, hw⟩
    obtain ⟨s, g, k, ⟨hs, hg, hk⟩, heq⟩ := sidx_surjective hp (hw.trans_le (dist_le_slots p hp d hd))
    exact ⟨s, g, k, hs, hg, hk, heq⟩

end Sys2Proof.Machine

/-! ### The statements -/

namespace Sys2Proof.Proofs

open Sys2Proof.Machine

/-- Settles O5: the input is taken apart, and the arrival of a transfer writes the operand registers for a command
packet only. -/
theorem stepRunsTheDecodedInstruction : Obligations.StepRunsTheDecodedInstruction := by
  intro s f bs rest i
  refine ⟨fun hin hdec => ?_, step_of_inbox_nil⟩
  rw [step_of_inbox_transfer hin, runTransfer_of_decodeAs_ok hdec]
  by_cases hf : f = .cmd
  · subst hf
    rfl
  · rw [arrive_of_ne_cmd hf, if_neg hf]

/-- Settles O34: entry and slot number are the two digits of the word index. -/
theorem shuffleMapIsABijection : Obligations.ShuffleMapIsABijection := fun _ hp =>
  ⟨fun _ _ _ => sidx_lt hp, fun _ _ _ _ _ _ => sidx_injective hp, fun _ => sidx_surjective hp⟩

/-- Settles O17: the test made at construction decides R7, and the default configuration passes it. -/
theorem defaultConfigurationWellFormed : Obligations.DefaultConfigurationWellFormed := by
  refine ⟨cfg_wellFormed, ?_, fun K hK => ⟨_, construct_of_wellFormed hK⟩, fun K => construct_of_not_wellFormed⟩
  rw [construct_of_wellFormed cfg_wellFormed, stepWith_cfg]
  rfl

end Sys2Proof.Proofs
end

section
/-! PROOFS. What a step can do to the session state, said once for all instructions, and the statements that follow
from it alone: the invariant, the absence of faults, the latched profile. -/

namespace Sys2Proof.Safety

open Sys2Proof.Machine

/-! ### The invariant and the operations of a session -/

/-- `t` differs from `s` at most in what the invariant does not speak of: `FRAMES`, `ASPECT`, `ERR`, the two sticky
flags and the packet interface. -/
def SameSession (s t : State) : Prop :=
  t = { s with
    frames := t.frames, aspect := t.aspect, err := t.err, vovr := t.vovr, aovf := t.aovf
    opc := t.opc, opA := t.opA, opB := t.opB, len := t.len, pay := t.pay
    response := t.response, inbox := t.inbox }

theorem StateInv.of_sameSession {s t : State} (h : StateInv s) (hst : SameSession s t) : StateInv t := by
  rw [hst]
  exact ⟨h.vbuf_wf, h.framebuf_wf, h.mstate_outside_mux, h.abytes_outside_demux, h.pvalid_in_mux, h.pvalid_closed,
    h.mux_audio, h.naudio_range, h.audio_codes, h.vpend_unit, h.ready_frame, h.fifo_cap, h.fifo0_unused,
    h.fifo1_unused, h.date_range⟩

theorem sameSession_respond (s : State) (ra : Byte) (v : List Byte) : SameSession s (s.respond ra v) := rfl

theorem sameSession_respondNotReady (s : State) : SameSession s s.respondNotReady := rfl

theorem sameSession_raise (s : State) (k : Kind) : SameSession s (s.raise k) := rfl

theorem sameSession_arrive (f : Format) (bs : List Byte) (s : State) : SameSession s (arrive f bs s) := by
  cases f <;> rfl

theorem StateInv.respond {s : State} (h : StateInv s) (ra : Byte) (v : List Byte) : StateInv (s.respond ra v) :=
  h.of_sameSession (sameSession_respond s ra v)

/-- The reset state satisfies the invariant. -/
theorem stateInv_reset : StateInv State.reset where
  vbuf_wf := Memory.nil_wf
  framebuf_wf := Memory.nil_wf
  mstate_outside_mux _ := rfl
  abytes_outside_demux _ := rfl
  pvalid_in_mux := nofun
  pvalid_closed _ := rfl
  mux_audio := nofun
  naudio_range := by decide
  audio_codes := by decide
  vpend_unit := nofun
  ready_frame := nofun
  fifo_cap := ⟨Nat.zero_le _, Nat.zero_le _⟩
  fifo0_unused _ := rfl
  fifo1_unused _ := rfl
  date_range := by decide

theorem stateInv_cleared (s : State) : StateInv s.cleared := stateInv_reset.of_sameSession rfl

theorem stateInv_openedDemux (s : State) : StateInv { s.cleared with mode := .demux } :=
  { stateInv_cleared s with
    pvalid_in_mux := nofun
    pvalid_closed := nofun
    mux_audio := nofun
    abytes_outside_demux := fun _ => rfl
    mstate_outside_mux := fun _ => rfl
    vpend_unit := nofun
    fifo0_unused := fun _ => rfl
    fifo1_unused := fun _ => rfl }

/-- A topology that OPEN_MUX takes opens a session that keeps the invariant (R38, R262). -/
theorem stateInv_openedMux (s : State) {o : Operands} {r : Nat} (h : muxTopology o = .ok r) (aspect : Nat) :
    StateInv (openedMux s r (audioCount o.pay) aspect) := by
  obtain ⟨p, hp, hchannels, htwo⟩ := muxTopology_ok h
  have hn : (openedMux s r (audioCount o.pay) aspect).naudio.toNat = audioCount o.pay :=
    Nat.mod_eq_of_lt (show audioCount o.pay < 2 ^ 2 by omega)
  have hsession : sessionProfile (openedMux s r (audioCount o.pay) aspect) = p := by
    have hget := sessionProfile_get (openedMux s r (audioCount o.pay) aspect)
    have hr : (openedMux s r (audioCount o.pay) aspect).profile.toNat = r :=
      Nat.mod_eq_of_lt (show r < cfg.prof.length from (List.getElem?_eq_some_iff.1 hp).1)
    rw [hr, hp] at hget
    exact (Option.some.inj hget).symm
  exact
    { stateInv_cleared s with
      mstate_outside_mux := fun _ => rfl
      abytes_outside_demux := fun _ => rfl
      pvalid_in_mux := fun _ => rfl
      pvalid_closed := nofun
      mux_audio := fun _ => ⟨rfl, rfl, by rw [hn, hsession]; exact hchannels⟩
      naudio_range := hn.trans_le htwo
      vpend_unit := nofun
      ready_frame := nofun
      fifo0_unused := fun _ => rfl
      fifo1_unused := fun _ => rfl }

theorem StateInv.leaveEmitted {s : State} (h : StateInv s) : StateInv (leaveEmitted s) := by
  unfold Machine.leaveEmitted
  split
  · exact { h with framebuf_wf := Memory.nil_wf, mstate_outside_mux := fun _ => rfl, ready_frame := nofun }
  · exact h

/-- PUSH_VIDEO's writes before `Evaluate`: a whole unit is pending (R263). -/
theorem StateInv.videoPushed {s : State} (h : StateInv s) (hm : s.mode = .mux) {V : List Byte}
    (hV : V.length = videoUnit (sessionProfile s)) : StateInv (videoPushed s V) :=
  { h.leaveEmitted with
    vbuf_wf := Memory.ofBytes_wf V
    vpend_unit := fun _ => ⟨(leaveEmitted_mode s).trans hm, V,
      hV.trans (congrArg (videoUnit ·) (sessionProfile_congr (leaveEmitted_profile s)).symm), rfl⟩ }

/-- PUSH_AUDIO's writes before `Evaluate`: bytes that fit, for a stream of the session (R264, R35). -/
theorem StateInv.fifoWrite {s : State} (h : StateInv s) (hm : s.mode = .mux) {i : Nat} (hi : i < s.naudio.toNat)
    {x : List Byte} (hx : (fifoOf s i).length + x.length ≤ cfg.fifoCap) : StateInv (fifoWrite s i x) := by
  unfold Machine.fifoWrite
  split
  · next h0 =>
    rw [fifoOf, if_pos h0] at hx
    exact { h with
      fifo_cap := ⟨by rw [List.length_append]; exact hx, h.fifo_cap.2⟩
      fifo0_unused := fun hno => hno.elim (absurd hm) fun hn => absurd (hi.trans_eq hn) (Nat.not_lt_zero i) }
  · next h0 =>
    rw [fifoOf, if_neg h0] at hx
    exact { h with
      fifo_cap := ⟨h.fifo_cap.1, by rw [List.length_append]; exact hx⟩
      fifo1_unused := fun hno => hno.elim (absurd hm) fun hn => absurd (hi.trans_le hn) (by omega) }

/-- What is read from a FIFO leaves it no longer (R35). -/
theorem length_ite_drop_le (c : Prop) [Decidable c] (n : Nat) (q : List Byte) :
    (if c then q.drop n else q).length ≤ q.length := by
  split
  · exact (List.drop_sublist n q).length_le
  · exact Nat.le_refl _

/-- Assembly uses up the pending unit and leaves a whole frame in FRAMEBUF (R266, R267). -/
theorem StateInv.assembledState {s : State} (h : StateInv s) (hv : s.vpend = true) {F : Buffer}
    (hF : F.size = (sessionProfile s).frameSize) : StateInv (assembledState s F) := by
  obtain ⟨hm, -⟩ := h.vpend_unit hv
  exact { h with
    vbuf_wf := Memory.nil_wf
    framebuf_wf := Memory.ofBytes_wf F.toList
    mstate_outside_mux := absurd hm
    vpend_unit := nofun
    ready_frame := fun _ => ⟨F.toList, hF, rfl⟩
    fifo_cap := ⟨(length_ite_drop_le _ _ _).trans h.fifo_cap.1, (length_ite_drop_le _ _ _).trans h.fifo_cap.2⟩
    fifo0_unused := fun hno => by simp [h.fifo0_unused hno]
    fifo1_unused := fun hno => by simp [h.fifo1_unused hno] }

theorem StateInv.evaluate {s t : State} (h : StateInv s) (ht : evaluate s = .ok t) : StateInv t := by
  rcases evaluate_cases s with ⟨-, hok⟩ | ⟨-, -, herr⟩ | ⟨hready, V, -, ⟨k, -, herr⟩ | ⟨F, hF, hok⟩⟩
  · rw [hok] at ht; cases ht; exact h
  · rw [herr] at ht; cases ht
  · rw [herr] at ht; cases ht
  · rw [hok] at ht; cases ht
    exact h.assembledState ((frameReady_iff s).1 hready).2.1 (assembledFrame_size hF)

end Sys2Proof.Safety
namespace Sys2Proof.Machine

open Sys2Proof.Safety

/-! ### What an instruction can do -/

/-- What an instruction can answer, with what the session then is: nothing of the session changes (a pure command, a
refusal, READ_STATUS, a row that is no command), or one of the session commands went through. -/
inductive Effect : Instr → State → Out → Prop
  | same {i s t} : SameSession s t → Effect i s (.next t)
  | openMux {o s r} : muxTopology o = .ok r →
      Effect (.openMux o) s (.next ((openedMux s r (audioCount o.pay) (payAt o.pay 3).toNat).respond (byte r) []))
  | pushVideo {o s} : s.mode = .mux → o.pay.length = videoUnit (sessionProfile s) →
      Effect (.pushVideo o) s (sessionCommand s 0 (evaluate (videoPushed s o.pay)))
  | pushAudio {o s} : s.mode = .mux → o.a.toNat < s.naudio.toNat →
      (fifoOf s o.a.toNat).length + o.pay.length ≤ cfg.fifoCap →
      Effect (.pushAudio o) s (sessionCommand s 0 (evaluate (audioPushed s o.a.toNat o.pay)))
  | assemblyFault {o s f} : evaluate (leaveEmitted s) = .error (.faulted f) →
      Effect (.tryEmitFrame o) s (.fault f)
  | emit {o s u} : s.mode = .mux → evaluate (leaveEmitted s) = .ok u → Effect (.tryEmitFrame o) s (emit u)
  | openDemux {o s} : Effect (.openDemux o) s (.next ({ s.cleared with mode := .demux }.respond 0 []))
  | fatal {o s k} : s.mode = .demux → Effect (.feedFrame o) s (.next (s.raiseFatal k))
  | fed {o s r q F a ra v} : s.mode = .demux → (s.pvalid = true → r = s.profile.toNat) →
      audioParams q F = .ok a → Effect (.feedFrame o) s (.next ((frameFed s r (audioOf a)).respond ra v))
  | close {o s} : Effect (.close o) s (.next (s.cleared.respond 0 []))
  | setRecdt {o s d} : dateInRange d = true → Effect (.setRecdt o) s (.next ({ s with recdt := d }.respond 0 []))

theorem Effect.raise (i : Instr) (s : State) (k : Kind) : Effect i s (.next (s.raise k)) :=
  .same (sameSession_raise s k)

theorem effect_pureCommand (i : Instr) (s : State) (r : Except Kind Reply) : Effect i s (pureCommand r s) := by
  cases r with
  | ok v => exact .same (sameSession_respond s v.ra v.rpay)
  | error k => exact .raise i s k

theorem effect_presentPack (i : Instr) (k : PackKind) (dsf : Bool) (vs : List Nat) (s : State) :
    Effect i s (presentPack k dsf vs s) := effect_pureCommand i s _

theorem effect_openMux (o : Operands) (s : State) : Effect (.openMux o) s (execOpenMux o s) := by
  unfold execOpenMux openMux
  split
  · exact .raise _ _ _
  split
  · exact .raise _ _ _
  split
  · exact .raise _ _ _
  · next hr => exact .openMux hr

theorem effect_pushVideo (o : Operands) (s : State) : Effect (.pushVideo o) s (execPushVideo o s) := by
  unfold execPushVideo pushVideo
  split
  · exact .raise _ _ _
  next hmode =>
  split
  · exact .raise _ _ _
  split
  · exact .raise _ _ _
  next hlen => exact .pushVideo ((modeRefusal_none (by decide)).1 hmode) (not_not.1 hlen)

theorem effect_pushAudio (o : Operands) (s : State) : Effect (.pushAudio o) s (execPushAudio o s) := by
  unfold execPushAudio pushAudio
  split
  · exact .raise _ _ _
  next hmode =>
  split
  · exact .raise _ _ _
  next hstream =>
  split
  · exact .same rfl
  next hroom =>
  exact .pushAudio ((modeRefusal_none (by decide)).1 hmode) (not_le.1 fun h => hstream (.inl h)) (not_lt.1 hroom)

theorem effect_tryEmitFrame (o : Operands) (s : State) : Effect (.tryEmitFrame o) s (execTryEmitFrame o s) := by
  unfold execTryEmitFrame tryEmitFrame
  split
  · exact .raise _ _ _
  next hmode =>
  split
  · exact .raise _ _ _
  split
  · exact .raise _ _ _
  split
  · exact .raise _ _ _
  · next hf => exact .assemblyFault hf
  · next hu => exact .emit ((modeRefusal_none (by decide)).1 hmode) hu

theorem effect_openDemux (o : Operands) (s : State) : Effect (.openDemux o) s (execOpenDemux o s) := by
  unfold execOpenDemux
  split
  · exact .raise _ _ _
  split
  · exact .raise _ _ _
  split
  · exact .raise _ _ _
  · exact .openDemux

theorem effect_feedFrame (o : Operands) (s : State) : Effect (.feedFrame o) s (execFeedFrame o s) := by
  unfold execFeedFrame feed
  split
  · exact .raise _ _ _
  next hmode =>
  have hdemux : s.mode = .demux := (modeRefusal_none (by decide)).1 hmode
  split
  · exact .raise _ _ _
  unfold feedFrame
  split
  · exact .raise _ _ _
  split
  · exact .fatal hdemux
  split
  · exact .fatal hdemux
  next hlatched =>
  split
  · exact .fatal hdemux
  split
  · exact .raise _ _ _
  dsimp only
  split
  · exact .fatal hdemux
  next hparams => exact .fed hdemux (fun hp => not_not.1 fun hne => hlatched ⟨hp, hne⟩) hparams

theorem effect_close (o : Operands) (s : State) : Effect (.close o) s (execClose o s) := by
  unfold execClose
  split
  · exact .raise _ _ _
  split
  · exact .raise _ _ _
  · exact .close

theorem effect_setRecdt (o : Operands) (s : State) : Effect (.setRecdt o) s (execSetRecdt o s) := by
  unfold execSetRecdt
  split
  · exact .raise _ _ _
  split
  · exact .raise _ _ _
  split
  · exact .raise _ _ _
  split
  · exact .raise _ _ _
  · next hd => exact .setRecdt (by simpa using hd)

theorem effect_readStatus (o : Operands) (s : State) : Effect (.readStatus o) s (execReadStatus o s) := by
  unfold execReadStatus
  split
  · exact .raise _ _ _
  split
  · exact .raise _ _ _
  · exact .same (sameSession_respond s 0 _)

/-- Every instruction has one of the effects. -/
theorem exec_effect (i : Instr) (s : State) : Effect i s (exec i s) := by
  cases i with
  | openMux o => exact effect_openMux o s
  | pushVideo o => exact effect_pushVideo o s
  | pushAudio o => exact effect_pushAudio o s
  | tryEmitFrame o => exact effect_tryEmitFrame o s
  | openDemux o => exact effect_openDemux o s
  | feedFrame o => exact effect_feedFrame o s
  | close o => exact effect_close o s
  | setRecdt o => exact effect_setRecdt o s
  | readStatus o => exact effect_readStatus o s
  | profileSelect | profileDetect | kindLookup | packEnc | packDec | tcDerive | formatFrame | injectVideo
  | injectAudio | extractVideo | extractAudio | extractPack | expand12 | unpack12 | shufAddr =>
    exact effect_pureCommand _ s _
  | kHdr | kTc | kAs | kAc | kArd | kArt | kVs | kVc | kVrd | kVrt => exact effect_presentPack _ _ _ _ s
  | nopack => exact effect_presentPack .nopack .nopack false [] s
  | sectHeader | sectSubcode | sectAux | sectAudio | sectVideo | subId | codeNone => exact .same rfl
  | classOk | classNotReady | classIncomplete | classRefused | classError => exact .same rfl
  | codeProfileUnrecognized | codeUnsupportedQuantization | codeIncompleteInput | codeStreamTopologyInvalid
  | codeBadOpcode | codeBadMode | codeBadOperand | codeFieldRange | codeLengthMismatch | codePackMismatch
  | codeFifoFull | codeSessionFailed => exact .raise _ s _

/-! ### Every effect keeps the invariant, and none is a fault -/

/-- An outcome that is safe: a next state that satisfies the invariant, or a refusal by the model, but no fault. -/
def SafeOutcome : Out → Prop
  | .next t => StateInv t
  | .fault _ => False
  | .refused _ => True

theorem safeOutcome_sessionCommand {s u : State} (hs : StateInv s) (hu : StateInv u) :
    SafeOutcome (sessionCommand s 0 (evaluate u)) := by
  cases he : evaluate u with
  | ok t => exact (hu.evaluate he).respond 0 []
  | error e =>
    cases e with
    | raised k => exact hs.of_sameSession (sameSession_raise s k)
    | faulted f => exact absurd he (evaluate_no_fault hu f)

/-- Everything emission can do (R268): hand a READY frame over, answer NOT_READY, or fault on FRAMEBUF. -/
theorem emit_cases (s : State) :
    (s.mstate = .ready ∧ Memory.readBytes s.framebuf (sessionProfile s).frameSize = none ∧
      emit s = .fault (.readUnspecified .framebuf)) ∨
    (s.mstate = .ready ∧ ∃ F, Memory.readBytes s.framebuf (sessionProfile s).frameSize = some F ∧
      emit s = .next ({ s with frames := s.frames + 1, mstate := .emitted }.respond 0 F)) ∨
    (s.mstate ≠ .ready ∧ emit s = .next s.respondNotReady) := by
  have hframes : counter (s.frames.toNat + 1) = s.frames + 1 := counter_add s.frames 1
  by_cases hready : s.mstate = .ready
  · cases hread : Memory.readBytes s.framebuf (sessionProfile s).frameSize with
    | none => exact .inl ⟨hready, rfl, by simp only [emit, hready, hread, if_true]⟩
    | some F => exact .inr (.inl ⟨hready, F, rfl, by simp only [emit, hready, hread, if_true, hframes]⟩)
  · exact .inr (.inr ⟨hready, by simp only [emit, if_neg hready]⟩)

theorem safeOutcome_emit {s : State} (h : StateInv s) (hm : s.mode = .mux) : SafeOutcome (emit s) := by
  rcases emit_cases s with ⟨-, -, hfault⟩ | ⟨-, F, -, hok⟩ | ⟨-, hno⟩
  · exact absurd hfault (emit_no_fault h _)
  · rw [hok]
    have hemitted : StateInv { s with frames := s.frames + 1, mstate := .emitted } :=
      { h with mstate_outside_mux := absurd hm, ready_frame := nofun }
    exact hemitted.respond 0 F
  · rw [hno]
    exact h.of_sameSession (sameSession_respondNotReady s)

/-- `Evaluate` leaves the mode and the profile (R266). -/
theorem evaluate_keeps {s t : State} (h : evaluate s = .ok t) :
    t.mode = s.mode ∧ t.profile = s.profile ∧ t.pvalid = s.pvalid := by
  rcases evaluate_cases s with ⟨-, hok⟩ | ⟨-, -, herr⟩ | ⟨-, V, -, ⟨k, -, herr⟩ | ⟨F, -, hok⟩⟩
  · rw [hok] at h; cases h; exact ⟨rfl, rfl, rfl⟩
  · rw [herr] at h; cases h
  · rw [herr] at h; cases h
  · rw [hok] at h; cases h; exact ⟨rfl, rfl, rfl⟩

/-- A fatal error ends a demux session and keeps its registers (R330). -/
theorem stateInv_raiseFatal {s : State} (h : StateInv s) (hd : s.mode = .demux) (k : Kind) :
    StateInv (s.raiseFatal k) := by
  have hmux : s.mode ≠ .mux := by rw [hd]; decide
  exact
    { h.of_sameSession (sameSession_raise s k) with
      mstate_outside_mux := fun _ => h.mstate_outside_mux hmux
      abytes_outside_demux := nofun
      pvalid_in_mux := nofun
      pvalid_closed := nofun
      mux_audio := nofun
      vpend_unit := fun hv => absurd (h.vpend_unit hv).1 hmux
      fifo0_unused := fun _ => h.fifo0_unused (.inl hmux)
      fifo1_unused := fun _ => h.fifo1_unused (.inl hmux) }

/-- A frame that is decoded leaves the codes its audio source pack may name (R116, R292). -/
theorem stateInv_frameFed {s : State} (h : StateInv s) (hd : s.mode = .demux) (r : Nat) {q : Profile} {F : Buffer}
    {a : Option AudioParams} (ha : audioParams q F = .ok a) : StateInv (frameFed s r (audioOf a)) := by
  have hmux : s.mode ≠ .mux := by rw [hd]; decide
  obtain ⟨hns, hsmp, hqu⟩ := audioOf_ok ha
  have hclosed : ¬ (s.mode = .closed ∨ s.mode = .mux) := by rw [hd]; decide
  exact
    { h with
      abytes_outside_demux := fun hm => absurd hm hclosed
      pvalid_in_mux := fun _ => rfl
      pvalid_closed := fun hm => absurd (.inl hm) hclosed
      mux_audio := fun hm => absurd hm hmux
      naudio_range := (Nat.mod_le _ _).trans hns
      audio_codes := ⟨(Nat.mod_le _ _).trans hsmp, (Nat.mod_le _ _).trans hqu⟩
      vpend_unit := fun hv => absurd (h.vpend_unit hv).1 hmux
      ready_frame := fun hready => by
        have hacc := h.mstate_outside_mux hmux
        cases hacc.symm.trans hready
      fifo0_unused := fun _ => h.fifo0_unused (.inl hmux)
      fifo1_unused := fun _ => h.fifo1_unused (.inl hmux) }

theorem Effect.safe {i : Instr} {s : State} {out : Out} (he : Effect i s out) (h : StateInv s) :
    SafeOutcome out := by
  cases he with
  | same hst => exact h.of_sameSession hst
  | openMux hr => exact (stateInv_openedMux s hr _).respond _ _
  | pushVideo hm hlen => exact safeOutcome_sessionCommand h (h.videoPushed hm hlen)
  | pushAudio hm hi hroom =>
    refine safeOutcome_sessionCommand h (h.leaveEmitted.fifoWrite ?_ ?_ ?_)
    · rw [leaveEmitted_mode, hm]
    · rwa [leaveEmitted_naudio]
    · rwa [fifoOf, leaveEmitted_fifo0, leaveEmitted_fifo1]
  | assemblyFault hf => exact absurd hf (evaluate_no_fault h.leaveEmitted _)
  | emit hm hu =>
    refine safeOutcome_emit (h.leaveEmitted.evaluate hu) ?_
    rw [(evaluate_keeps hu).1, leaveEmitted_mode, hm]
  | openDemux => exact (stateInv_openedDemux s).respond 0 []
  | fatal hd => exact stateInv_raiseFatal h hd _
  | fed hd _ ha => exact (stateInv_frameFed h hd _ ha).respond _ _
  | close => exact (stateInv_cleared s).respond 0 []
  | @setRecdt o s d hdate =>
    have hdated : StateInv { s with recdt := d } := { h with date_range := hdate }
    exact hdated.respond 0 []

/-- A transfer that holds no instruction is refused, by DVMX or by the model (R114, R115, R162). -/
theorem safeOutcome_rejectTransfer {s : State} (h : StateInv s) (e : DecodeError) :
    SafeOutcome (rejectTransfer e s) := by
  cases e with
  | badOpcode | badSelector | packLength => exact h.of_sameSession (sameSession_raise s _)
  | shortHeader | lengthField | badBlockId | badSubId | badResponse | badCode => trivial

theorem safeOutcome_runTransfer {s : State} (h : StateInv s) (f : Format) (bs : List Byte) :
    SafeOutcome (runTransfer f bs s) := by
  have harrived := h.of_sameSession (sameSession_arrive f bs s)
  unfold runTransfer runTransferBy
  split
  · exact (exec_effect _ _).safe harrived
  · exact safeOutcome_rejectTransfer harrived _

/-- A reset, between two commands or while one executes, leaves the reset state (R350, R351). -/
theorem step_of_reset {s : State} {rest : List HostEvent}
    (h : s.inbox = .hardReset :: rest ∨ ∃ f bs, s.inbox = .resetDuring f bs :: rest) :
    step s = .next { State.reset with inbox := rest } := by
  rcases h with h | ⟨f, bs, h⟩
  · simp only [step, cycle, cycleBy, h, hardReset]
  · simp only [step, cycle, cycleBy, h, hardReset]

/-- The induction step of every run: whatever the host sends, the outcome is safe. -/
theorem safeOutcome_step {s : State} (h : StateInv s) : SafeOutcome (step s) := by
  cases hin : s.inbox with
  | nil => rw [step_of_inbox_nil hin]; exact h
  | cons e rest =>
    cases e with
    | transfer f bs =>
      rw [step_of_inbox_transfer hin]
      have htaken : StateInv { s with inbox := rest } := h.of_sameSession rfl
      exact safeOutcome_runTransfer htaken f bs
    | hardReset => rw [step_of_reset (.inl hin)]; exact stateInv_reset.of_sameSession rfl
    | resetDuring f bs => rw [step_of_reset (.inr ⟨f, bs, hin⟩)]; exact stateInv_reset.of_sameSession rfl

/-! ### The profile of a session (R22) -/

/-- The profile is kept by what a push or TRY_EMIT_FRAME leaves. -/
theorem sessionCommand_keeps_profile {s t u : State} (hs : u.profile = s.profile ∧ u.pvalid = s.pvalid)
    (h : sessionCommand s 0 (evaluate u) = .next t) : t.profile = s.profile ∧ t.pvalid = s.pvalid := by
  rcases sessionCommand_cases h with ⟨v, hv, rfl⟩ | ⟨k, -, rfl⟩
  · obtain ⟨-, hprofile, hpvalid⟩ := evaluate_keeps hv
    exact ⟨hprofile.trans hs.1, hpvalid.trans hs.2⟩
  · exact ⟨rfl, rfl⟩

theorem emit_keeps_profile {s t : State} (h : emit s = .next t) : t.profile = s.profile ∧ t.pvalid = s.pvalid := by
  rcases emit_cases s with ⟨-, -, hout⟩ | ⟨-, F, -, hout⟩ | ⟨-, hout⟩
  · rw [hout] at h; cases h
  · rw [hout] at h; cases h; exact ⟨rfl, rfl⟩
  · rw [hout] at h; cases h; exact ⟨rfl, rfl⟩

/-- Who writes `PROFILE` or `PVALID`: the two opens, CLOSE, and the first frame of a demux session. -/
theorem Effect.profile_cases {i : Instr} {s t : State} (he : Effect i s (.next t)) :
    (t.profile = s.profile ∧ t.pvalid = s.pvalid) ∨
    (∃ o, i = .openMux o ∧ t.pvalid = true) ∨
    (∃ o, i = .feedFrame o ∧ s.pvalid = false ∧ t.pvalid = true) ∨
    (∃ o, i = .openDemux o ∧ t.pvalid = false) ∨
    (∃ o, i = .close o ∧ t.pvalid = false) := by
  generalize hout : Host.Outcome.next t = out at he
  cases he with
  | same hst =>
    cases hout
    rw [hst]
    exact .inl ⟨rfl, rfl⟩
  | openMux _ => cases hout; exact .inr (.inl ⟨_, rfl, rfl⟩)
  | pushVideo _ _ =>
    refine .inl (sessionCommand_keeps_profile ⟨?_, ?_⟩ hout.symm)
    · exact leaveEmitted_profile s
    · exact leaveEmitted_pvalid s
  | pushAudio _ _ _ =>
    refine .inl (sessionCommand_keeps_profile ⟨?_, ?_⟩ hout.symm)
    · exact (fifoWrite_profile _ _ _).trans (leaveEmitted_profile s)
    · exact (fifoWrite_pvalid _ _ _).trans (leaveEmitted_pvalid s)
  | assemblyFault _ => cases hout
  | emit _ hu =>
    obtain ⟨hprofile, hpvalid⟩ := emit_keeps_profile hout.symm
    obtain ⟨-, hprofile', hpvalid'⟩ := evaluate_keeps hu
    exact .inl ⟨hprofile.trans (hprofile'.trans (leaveEmitted_profile s)),
      hpvalid.trans (hpvalid'.trans (leaveEmitted_pvalid s))⟩
  | openDemux => cases hout; exact .inr (.inr (.inr (.inl ⟨_, rfl, rfl⟩)))
  | fatal _ => cases hout; exact .inl ⟨rfl, rfl⟩
  | fed _ hlatched _ =>
    cases hout
    cases hp : s.pvalid with
    | false => exact .inr (.inr (.inl ⟨_, rfl, rfl, rfl⟩))
    | true =>
      refine .inl ⟨?_, rfl⟩
      rw [State.respond_profile, frameFed_profile, hlatched hp, BitVec.ofNat_toNat, BitVec.setWidth_eq]
  | close => cases hout; exact .inr (.inr (.inr (.inr ⟨_, rfl, rfl⟩)))
  | setRecdt _ => cases hout; exact .inl ⟨rfl, rfl⟩

end Sys2Proof.Machine

/-! ### The statements -/

namespace Sys2Proof.Proofs

open Sys2Proof.Machine Sys2Proof.Safety

/-- Settles O57. -/
theorem resetSatisfiesTheInvariant : Obligations.ResetSatisfiesTheInvariant := stateInv_reset

/-- Settles O58: each effect an instruction can have keeps the invariant, and so do a reset and a refused transfer. -/
theorem everyStepKeepsTheInvariant : Obligations.EveryStepKeepsTheInvariant := by
  intro s t h hstep
  have hsafe := safeOutcome_step h
  rwa [hstep] at hsafe

/-- Settles O59: under the invariant a pending unit and a READY frame are whole, so neither assembly nor emission
faults, and nothing else reads VBUF or FRAMEBUF. -/
theorem noStepFaults : Obligations.NoStepFaults := by
  intro s h f hstep
  have hsafe := safeOutcome_step h
  rwa [hstep] at hsafe

/-- Settles O16: by the effects an instruction can have. -/
theorem profileIsLatched : Obligations.ProfileIsLatched := by
  intro i s t hexec hchanged
  have he := exec_effect i s
  rw [hexec] at he
  rcases he.profile_cases with ⟨hprofile, hpvalid⟩ | hwriter
  · exact absurd hchanged (not_or.2 ⟨not_not.2 hprofile, not_not.2 hpvalid⟩)
  · exact hwriter

end Sys2Proof.Proofs
end

section
/-! PROOFS. The three commands of a running mux session: PUSH_VIDEO, PUSH_AUDIO and TRY_EMIT_FRAME. Each is its operand
tests, its own writes, and then `Evaluate`, whose two outcomes under the invariant are stated once. -/

namespace Sys2Proof.Machine

open Sys2Proof.Safety

/-! ### Operand tests (R115, R329) -/

theorem lenOf_ne_zero_iff (o : Operands) : lenOf o ≠ 0 ↔ o.pay ≠ [] := List.length_eq_zero_iff.not

/-- The operand test and the length test of a command without operands, in the terms of the statements. -/
theorem ite_operands_lenOf {α : Type} (o : Operands) (x y z : α) :
    (if (!operandsZero o) = true then x else if lenOf o ≠ 0 then y else z) =
      if o.a ≠ 0 ∨ o.b ≠ 0 then x else if o.pay ≠ [] then y else z := by
  simp only [operandsZero_not_iff, lenOf_ne_zero_iff]

/-! ### The commands in MUX mode -/

theorem exec_pushVideo_of_mux {s : State} (hm : s.mode = .mux) (o : Operands) :
    exec (.pushVideo o) s =
      if o.a ≠ 0 ∨ o.b ≠ 0 then .next (endedState s .refused 0x12)
      else if o.pay.length ≠ videoUnit (sessionProfile s) then .next (endedState s .refused 0x14)
      else sessionCommand s 0 (evaluate (videoPushed s o.pay)) := by
  show pushVideo o s = _
  rw [pushVideo, modeRefusal_self hm (by decide)]
  simp only [operandsZero_not_iff, lenOf, State.raise_badOperand, State.raise_lengthMismatch]
  rfl

theorem exec_pushAudio_of_mux {s : State} (hm : s.mode = .mux) (o : Operands) :
    exec (.pushAudio o) s =
      if o.a.toNat ≥ s.naudio.toNat ∨ o.b ≠ 0 then .next (endedState s .refused 0x12)
      else if (fifoOf s o.a.toNat).length + o.pay.length > cfg.fifoCap then
        .next (endedState { s with aovf := true } .refused 0x16)
      else sessionCommand s 0 (evaluate (audioPushed s o.a.toNat o.pay)) := by
  show pushAudio o s = _
  rw [pushAudio, modeRefusal_self hm (by decide)]
  simp only [lenOf, flagsOnFifoFull, State.raise_badOperand, State.raise_fifoFull]
  rfl

theorem exec_tryEmitFrame_badOperand {s : State} (hm : s.mode = .mux) {o : Operands} (ho : o.a ≠ 0 ∨ o.b ≠ 0) :
    exec (.tryEmitFrame o) s = .next (endedState s .refused 0x12) := by
  show tryEmitFrame o s = _
  rw [tryEmitFrame, modeRefusal_self hm (by decide)]
  dsimp only
  rw [ite_operands_lenOf, if_pos ho, State.raise_badOperand]

theorem exec_tryEmitFrame_lengthMismatch {s : State} (hm : s.mode = .mux) {pay : List Byte} (hpay : pay ≠ []) :
    exec (.tryEmitFrame ⟨0, 0, pay⟩) s = .next (endedState s .refused 0x14) := by
  show tryEmitFrame ⟨0, 0, pay⟩ s = _
  rw [tryEmitFrame, modeRefusal_self hm (by decide)]
  dsimp only
  rw [ite_operands_lenOf, if_neg (by simp), if_pos hpay, State.raise_lengthMismatch]

/-- TRY_EMIT_FRAME goes on with what `Evaluate` leaves (R268). -/
theorem exec_tryEmitFrame_of_evaluate {s t : State} (hm : s.mode = .mux) (h : evaluate (leaveEmitted s) = .ok t) :
    exec (.tryEmitFrame ⟨0, 0, []⟩) s = emit t := by
  show tryEmitFrame ⟨0, 0, []⟩ s = _
  rw [tryEmitFrame, modeRefusal_self hm (by decide), h]
  rfl

/-! ### `Evaluate` (R266, R267) -/

theorem evaluate_of_not_ready {s : State}
    (h : ¬ (s.mstate = .accumulating ∧ s.vpend = true ∧ audioReady s (fun _ => 0))) : evaluate s = .ok s := by
  rw [evaluate, if_neg (mt (frameReady_iff s).1 h)]

theorem evaluate_of_mstate_ready {s : State} (h : s.mstate = .ready) : evaluate s = .ok s :=
  evaluate_of_not_ready fun hacc => nomatch h.symm.trans hacc.1

/-- A whole unit pending and the audio there: the frame is assembled from them (R267). -/
theorem evaluate_of_ready {s : State} {V : List Byte} {F0 : Buffer} (hacc : s.mstate = .accumulating)
    (hpend : s.vpend = true) (haudio : audioReady s (fun _ => 0)) (hlen : V.length = videoUnit (sessionProfile s))
    (hvbuf : s.vbuf = Memory.ofBytes V) (hF0 : formatFrame (sessionProfile s) (sessionCtx s) = .ok F0) :
    evaluate s = .ok { inputsTaken s [] with
      mstate := .ready, framebuf := Memory.ofBytes (frameFrom s F0 V) } := by
  obtain ⟨F, hF, hlist⟩ := assembled_of (V := V) hF0
  have hread : Memory.readBytes s.vbuf (videoUnit (sessionProfile s)) = some V := by
    rw [hvbuf, ← hlen, Memory.ofBytes_readBytes]
  rw [evaluate, if_pos ((frameReady_iff s).2 ⟨hacc, hpend, haudio⟩), assemble, hread]
  simp only [hF]
  rw [← hlist]
  rfl

/-- The assembled frame is a whole frame (R34, R61). -/
theorem frameFrom_length {s : State} {F0 : Buffer} (V : List Byte)
    (hF0 : formatFrame (sessionProfile s) (sessionCtx s) = .ok F0) :
    (frameFrom s F0 V).length = (sessionProfile s).frameSize := by
  obtain ⟨F, hF, hlist⟩ := assembled_of (V := V) hF0
  rw [← hlist, Array.length_toList, assembledFrame_size hF]

/-- A READY frame is handed over and the frame counter advances (R268). -/
theorem emit_of_ready {s : State} {F : List Byte} (hready : s.mstate = .ready)
    (hlen : F.length = (sessionProfile s).frameSize) (hframe : s.framebuf = Memory.ofBytes F) :
    emit s = .next (okState { s with frames := s.frames + 1, mstate := .emitted } 0 F) := by
  have hread : Memory.readBytes s.framebuf (sessionProfile s).frameSize = some F := by
    rw [hframe, ← hlen, Memory.ofBytes_readBytes]
  rcases emit_cases s with ⟨-, hnone, -⟩ | ⟨-, G, hG, hout⟩ | ⟨hno, -⟩
  · cases hread.symm.trans hnone
  · cases hread.symm.trans hG
    exact hout
  · exact absurd hready hno

theorem emit_of_not_ready {s : State} (h : s.mstate ≠ .ready) : emit s = .next s.respondNotReady := by
  rw [emit, if_neg h]

/-! ### EMITTED and the FIFOs -/

theorem leaveEmitted_of_ready {s : State} (h : s.mstate = .ready) : leaveEmitted s = s := by
  rw [leaveEmitted, if_neg (by rw [h]; decide)]

/-- Without a READY frame the session accumulates; what FRAMEBUF lists is left open (R34, R261). -/
theorem leaveEmitted_of_not_ready {s : State} (h : s.mstate ≠ .ready) :
    ∃ fb, leaveEmitted s = { s with mstate := .accumulating, framebuf := fb } := by
  cases hs : s.mstate with
  | ready => exact absurd hs h
  | emitted => exact ⟨[], by rw [leaveEmitted, if_pos hs]⟩
  | accumulating => exact ⟨s.framebuf, by rw [leaveEmitted, if_neg (by rw [hs]; decide), ← hs]⟩

/-- The two FIFOs are separate (R35). -/
theorem fifoOf_fifoWrite (s : State) {i j : Nat} (hi : i < 2) (hj : j < 2) (x : List Byte) :
    fifoOf (fifoWrite s i x) j = if j = i then fifoOf s i ++ x else fifoOf s j := by
  interval_cases i <;> interval_cases j <;> rfl

/-- The readiness condition after a PUSH_AUDIO, in the terms of the statement (R266). -/
theorem audioReady_fifoWrite {s : State} (htwo : s.naudio.toNat ≤ 2) {i : Nat} (hi : i < s.naudio.toNat)
    (x : List Byte) :
    audioReady (fifoWrite s i x) (fun _ => 0) ↔ audioReady s (fun j => if j = i then x.length else 0) := by
  unfold audioReady
  rw [fifoWrite_naudio, fifoWrite_frames, sessionProfile_congr (fifoWrite_profile s i x)]
  refine forall₂_congr fun j hj => ?_
  rw [fifoOf_fifoWrite s (hi.trans_le htwo) (hj.trans_le htwo)]
  by_cases hji : j = i
  · subst hji; simp
  · simp [hji]

/-- PUSH_AUDIO's operand names the FIFO. -/
theorem fifoWrite_of_byte (s : State) (a : Byte) (x : List Byte) :
    fifoWrite s a.toNat x =
      if a = 0 then { s with fifo0 := s.fifo0 ++ x } else { s with fifo1 := s.fifo1 ++ x } := by
  have hzero : a.toNat = 0 ↔ a = 0 := BitVec.toNat_eq (y := 0) |>.symm
  simp only [fifoWrite, hzero]

theorem sessionCtx_fifoWrite (s : State) (i : Nat) (x : List Byte) : sessionCtx (fifoWrite s i x) = sessionCtx s := by
  unfold fifoWrite
  split <;> rfl

theorem fifoWrite_with_framebuf (s : State) (i : Nat) (x : List Byte) (m : MuxState) (fb : Memory) :
    fifoWrite { s with mstate := m, framebuf := fb } i x = { fifoWrite s i x with mstate := m, framebuf := fb } := by
  unfold fifoWrite
  split <;> rfl

end Sys2Proof.Machine

/-! ### The statements -/

namespace Sys2Proof.Proofs

open Sys2Proof.Machine Sys2Proof.Safety

/-- Settles O45: a READY frame makes `Evaluate` do nothing; without one the command's own writes leave an accumulating
session with a whole unit pending, and the audio decides. -/
theorem pushVideoRule : Obligations.PushVideoRule := by
  intro s V h hm hV s1
  have htaken : exec (.pushVideo ⟨0, 0, V⟩) s = sessionCommand s 0 (evaluate (videoPushed s V)) := by
    rw [exec_pushVideo_of_mux hm, if_neg (by simp), if_neg (not_not.2 hV)]
  refine ⟨fun hready => ?_, fun hnot haudio => ?_, fun hnot haudio => ?_, fun o ho => ?_, fun pay hpay => ?_⟩
  · have hkept : evaluate (videoPushed s V) = .ok s1 := by
      rw [videoPushed, leaveEmitted_of_ready hready]
      exact evaluate_of_mstate_ready hready
    rw [htaken, hkept]
    rfl
  · obtain ⟨fb, hfb⟩ := leaveEmitted_of_not_ready hnot
    have hkept : evaluate (videoPushed s V) = .ok { s1 with mstate := .accumulating, framebuf := fb } := by
      rw [videoPushed, hfb]
      exact evaluate_of_not_ready fun hacc => haudio hacc.2.2
    exact ⟨fb, by rw [htaken, hkept]; rfl⟩
  · obtain ⟨fb, hfb⟩ := leaveEmitted_of_not_ready hnot
    obtain ⟨F0, hF0⟩ := session_format h hm
    have hassembled := evaluate_of_ready (s := { s1 with mstate := .accumulating, framebuf := fb }) (V := V) rfl rfl
      haudio hV rfl hF0
    refine ⟨F0, [], hF0, ?_⟩
    rw [htaken, videoPushed, hfb]
    exact congrArg (sessionCommand s 0) hassembled
  · rw [exec_pushVideo_of_mux hm, if_pos ho]
  · rw [exec_pushVideo_of_mux hm, if_neg (by simp), if_pos hpay]

/-- Settles O46: the bytes are appended, and then a pending unit and the audio with the new bytes decide. -/
theorem pushAudioRule : Obligations.PushAudioRule := by
  refine ⟨?_, fun s o hm ho => by rw [exec_pushAudio_of_mux hm, if_pos ho]⟩
  intro s a x h hm ha s1 ready
  have hstream : ¬ (a.toNat ≥ s.naudio.toNat ∨ (0 : Half) ≠ 0) := by simpa using ha
  have hwritten : fifoWrite s a.toNat x = s1 := fifoWrite_of_byte s a x
  have hready : ready ↔ s.vpend = true ∧ audioReady s1 (fun _ => 0) := by
    rw [← hwritten, audioReady_fifoWrite h.naudio_range ha]
  have htaken (hroom : (fifoOf s a.toNat).length + x.length ≤ cfg.fifoCap) :
      exec (.pushAudio ⟨a, 0, x⟩) s = sessionCommand s 0 (evaluate (audioPushed s a.toNat x)) := by
    rw [exec_pushAudio_of_mux hm, if_neg hstream, if_neg (not_lt.2 hroom)]
  have hpushed (hnot : s.mstate ≠ .ready) :
      ∃ fb, audioPushed s a.toNat x = { s1 with mstate := .accumulating, framebuf := fb } := by
    obtain ⟨fb, hfb⟩ := leaveEmitted_of_not_ready hnot
    exact ⟨fb, by rw [audioPushed, hfb, fifoWrite_with_framebuf, hwritten]⟩
  have hvpend : s1.vpend = s.vpend := by rw [← hwritten, fifoWrite_vpend]
  refine ⟨fun hfull => ?_, fun hroom hmready => ?_, fun hroom hnot hwait => ?_, fun hroom hnot hgo => ?_⟩
  · rw [exec_pushAudio_of_mux hm, if_neg hstream, if_pos hfull]
  · have hkept : evaluate (audioPushed s a.toNat x) = .ok s1 := by
      rw [audioPushed, leaveEmitted_of_ready hmready, hwritten]
      exact evaluate_of_mstate_ready (by rw [← hwritten, fifoWrite_mstate, hmready])
    rw [htaken hroom, hkept]
    rfl
  · obtain ⟨fb, hfb⟩ := hpushed hnot
    refine ⟨fb, ?_⟩
    rw [htaken hroom, hfb, evaluate_of_not_ready]
    · rfl
    · exact fun hacc => hwait (hready.2 ⟨hvpend ▸ hacc.2.1, hacc.2.2⟩)
  · obtain ⟨fb, hfb⟩ := hpushed hnot
    obtain ⟨hpend, haudio⟩ := hready.1 hgo
    obtain ⟨-, V, hV, hvbuf⟩ := h.vpend_unit hpend
    obtain ⟨F0, hF0⟩ := session_format h hm
    have hprofile : sessionProfile s1 = sessionProfile s :=
      sessionProfile_congr (by rw [← hwritten, fifoWrite_profile])
    have hF1 : formatFrame (sessionProfile s1) (sessionCtx s1) = .ok F0 := by
      rw [hprofile, ← hwritten, sessionCtx_fifoWrite, hF0]
    have hunit : s1.vbuf = Memory.ofBytes V := by rw [← hwritten, fifoWrite_vbuf, hvbuf]
    have hassembled := evaluate_of_ready (s := { s1 with mstate := .accumulating, framebuf := fb }) rfl
      (hvpend.trans hpend) haudio (hV.trans (congrArg (videoUnit ·) hprofile.symm)) hunit hF1
    refine ⟨F0, [], V, hV, hvbuf, hF0, ?_⟩
    rw [htaken hroom, hfb]
    exact congrArg (sessionCommand s 0) hassembled

/-- Settles O47: `Evaluate` leaves a READY frame or none, and emission hands over what is there. -/
theorem tryEmitFrameRule : Obligations.TryEmitFrameRule := by
  intro s h hm
  refine ⟨fun hready => ?_, fun hnot hwait => ?_, fun hnot hpend haudio => ?_,
    fun o ho => exec_tryEmitFrame_badOperand hm ho, fun pay hpay => exec_tryEmitFrame_lengthMismatch hm hpay⟩
  · obtain ⟨F, hlen, hframe⟩ := h.ready_frame hready
    refine ⟨F, hlen, hframe, ?_⟩
    have hkept : evaluate (leaveEmitted s) = .ok s := by
      rw [leaveEmitted_of_ready hready]
      exact evaluate_of_mstate_ready hready
    rw [exec_tryEmitFrame_of_evaluate hm hkept]
    exact emit_of_ready hready hlen hframe
  · obtain ⟨fb, hfb⟩ := leaveEmitted_of_not_ready hnot
    refine ⟨fb, ?_⟩
    rw [exec_tryEmitFrame_of_evaluate hm (t := { s with mstate := .accumulating, framebuf := fb })]
    · exact emit_of_not_ready nofun
    · rw [hfb]
      exact evaluate_of_not_ready fun hacc => hwait hacc.2
  · obtain ⟨fb, hfb⟩ := leaveEmitted_of_not_ready hnot
    obtain ⟨-, V, hV, hvbuf⟩ := h.vpend_unit hpend
    obtain ⟨F0, hF0⟩ := session_format h hm
    have hlen := frameFrom_length V hF0
    have hassembled : evaluate (leaveEmitted s) = .ok { inputsTaken s [] with
        mstate := .ready, framebuf := Memory.ofBytes (frameFrom s F0 V) } := by
      rw [hfb]
      exact evaluate_of_ready rfl hpend haudio hV hvbuf hF0
    refine ⟨F0, [], V, hV, hvbuf, hF0, ?_⟩
    rw [exec_tryEmitFrame_of_evaluate hm hassembled]
    generalize frameFrom s F0 V = F at hlen
    exact emit_of_ready rfl hlen rfl

end Sys2Proof.Proofs
end

section
/-! PROOFS. A packet with an unknown opcode, the hardware reset, KIND_LOOKUP, and the session commands that do not touch
a frame: OPEN_MUX, SET_RECDT, READ_STATUS, OPEN_DEMUX and CLOSE. -/

namespace Sys2Proof.Machine

open Sys2Proof.Safety

/-! ### Command packets (R31, R100, R101) -/

theorem ofNat_leNat_leBytes_two (b : Half) : BitVec.ofNat 16 (leNat (leBytes 2 b.toNat)) = b := by
  rw [leNat_leBytes (by have := b.isLt; omega), BitVec.ofNat_toNat, BitVec.setWidth_eq]

/-- The parts of a command packet: `B`, `LEN` and the payload behind the opcode and `A` (R100). -/
theorem commandPacket_parts (opc a : Byte) (b : Half) (pay : List Byte) :
    let bs := [opc, a] ++ leBytes 2 b.toNat ++ leBytes 4 pay.length ++ pay
    payAt bs 0 = opc ∧ payAt bs 1 = a ∧ slice bs 2 2 = leBytes 2 b.toNat ∧
      slice bs 4 4 = leBytes 4 pay.length ∧ bs.drop 8 = pay ∧ bs.length = 8 + pay.length := by
  refine ⟨rfl, rfl, rfl, rfl, rfl, ?_⟩
  simp only [List.length_append, List.length_cons, List.length_nil, leBytes_length]

/-- The arrival of a command packet writes the operand registers (R31). -/
theorem arrive_commandPacket (opc a : Byte) (b : Half) {pay : List Byte} (hpay : pay.length < 2 ^ 32) (s : State) :
    arrive .cmd ([opc, a] ++ leBytes 2 b.toNat ++ leBytes 4 pay.length ++ pay) s =
      { s with opc := opc, opA := a, opB := b, len := BitVec.ofNat 32 pay.length, pay := pay } := by
  obtain ⟨hopc, ha, hb, hlen, hdrop, -⟩ := commandPacket_parts opc a b pay
  simp only [arrive, hopc, ha, hb, hlen, hdrop, ofNat_leNat_leBytes_two, leNat_leBytes (k := 4) hpay]

/-- A command packet holds the instruction its opcode names, and none when the opcode is not in the map (R101). -/
theorem decodeAs_commandPacket (opc a : Byte) (b : Half) {pay : List Byte} (hpay : pay.length < 2 ^ 32) :
    decodeAs .cmd ([opc, a] ++ leBytes 2 b.toNat ++ leBytes 4 pay.length ++ pay) =
      (commandOf opc ⟨a, b, pay⟩).elim (.error .badOpcode) .ok := by
  obtain ⟨hopc, ha, hb, hlen, hdrop, hlength⟩ := commandPacket_parts opc a b pay
  have hlong : ¬ 8 + pay.length < 8 := by omega
  have hfield : ¬ leNat (leBytes 4 pay.length) ≠ 8 + pay.length - 8 := by
    rw [leNat_leBytes hpay]; omega
  simp only [decodeAs, decodeCommand, hlength, hlong, hfield, hlen, packetOperands, hopc, ha, hb, hdrop,
    ofNat_leNat_leBytes_two, if_false]
  cases commandOf opc ⟨a, b, pay⟩ with
  | none => rfl
  | some i => rfl

theorem commandOf_eq_none {opc : Byte} (o : Operands)
    (h : opc.toNat ∉ [0x01, 0x02, 0x03, 0x04, 0x05, 0x06, 0x07, 0x08, 0x09, 0x10, 0x11, 0x12, 0x20, 0x21, 0x22,
      0x30, 0x31, 0x32, 0x33, 0x34, 0x35, 0x40, 0x41, 0x42]) : commandOf opc o = none := by
  unfold commandOf
  split <;> simp_all

/-! ### The distribution tables (R43, R44, R45, R145) -/

/-- The row of selectors that KIND_LOOKUP reads for a table byte and a segment, as R43, R44 and R45 print it. -/
def lookupRow (table : Byte) (seg : Nat) : List Byte :=
  if table = 0 then
    if seg < 6 then [0x13, 0x13, 0x13, 0x13, 0x13, 0x13] else [0x13, 0x62, 0x63, 0x13, 0x62, 0x63]
  else if table = 1 then
    [0x60, 0x61, 0x62, 0x63, 0xFF, 0xFF, 0xFF, 0xFF, 0xFF, 0x60, 0x61, 0x62, 0x63, 0xFF, 0xFF]
  else if seg % 2 = 0 then [0xFF, 0xFF, 0xFF, 0x50, 0x51, 0x52, 0x53, 0xFF, 0xFF]
  else [0x50, 0x51, 0x52, 0x53, 0xFF, 0xFF, 0xFF, 0xFF, 0xFF]

theorem lookupRow_length (seg : Nat) :
    (lookupRow 0 seg).length = 6 ∧ (lookupRow 1 seg).length = 15 ∧ (lookupRow 2 seg).length = 9 := by
  refine ⟨?_, rfl, ?_⟩
  · show (if seg < 6 then _ else _ : List Byte).length = 6
    split <;> rfl
  · show (if seg % 2 = 0 then _ else _ : List Byte).length = 9
    split <;> rfl

theorem selector_subKind :
    ∀ seg < 12, ∀ slot < 6, cfg.selector (subKind seg slot) = (lookupRow 0 seg).getD slot 0 := by decide

theorem selector_auxKind :
    ∀ seg < 12, ∀ slot < 15, cfg.selector (auxKind seg slot) = (lookupRow 1 seg).getD slot 0 := by decide

theorem selector_audKind :
    ∀ seg < 12, ∀ slot < 9, cfg.selector (audKind seg slot) = (lookupRow 2 seg).getD slot 0 := by decide

/-- A slot of a row of `n` entries is found exactly when it is below `n`. -/
theorem map_selector_of_row {row : List Byte} {n slot : Nat} {k : PackKind} (hlen : row.length = n)
    (hentry : slot < n → cfg.selector k = row.getD slot 0) :
    (if slot < n then some k else none).map cfg.selector =
      if slot ≥ row.length then none else some (row.getD slot 0) := by
  by_cases hslot : slot < n
  · rw [if_pos hslot, if_neg (by omega), Option.map_some, hentry hslot]
  · rw [if_neg hslot, if_pos (by omega), Option.map_none]

/-- A lookup in range finds the row's entry, and one out of range nothing. -/
theorem kindLookup_selector {p : Profile} (hS : p.S ≤ 12) (table : Byte) (seg slot : Nat) :
    (kindLookup p table.toNat seg slot).map cfg.selector =
      if table.toNat > 2 ∨ seg ≥ p.S ∨ slot ≥ (lookupRow table seg).length then none
      else some ((lookupRow table seg).getD slot 0) := by
  obtain ⟨hsub, haux, haud⟩ := lookupRow_length seg
  by_cases hseg : seg ≥ p.S
  · rw [kindLookup, if_pos hseg, if_pos (.inr (.inl hseg))]
    rfl
  by_cases hbig : table.toNat > 2
  · rw [if_pos (.inl hbig), kindLookup, if_neg hseg, if_neg (by omega), if_neg (by omega), if_neg (by omega)]
    rfl
  have hlt : seg < 12 := by omega
  simp only [hbig, hseg, false_or]
  rw [kindLookup, if_neg hseg]
  obtain rfl | rfl | rfl : table = 0 ∨ table = 1 ∨ table = 2 := by
    have hall : ∀ t : Byte, ¬ t.toNat > 2 → t = 0 ∨ t = 1 ∨ t = 2 := by decide
    exact hall table hbig
  · exact map_selector_of_row hsub (selector_subKind seg hlt slot)
  · exact map_selector_of_row haux (selector_auxKind seg hlt slot)
  · exact map_selector_of_row haud (selector_audKind seg hlt slot)

/-- An operand `A` below 4 names a profile, and the odd ones have 12 segments (R41). -/
theorem profileAt_segments {a : Byte} (h : ¬ a.toNat ≥ 4) :
    ∃ p, profileAt a = some p ∧ p.S = if a = 0 ∨ a = 2 then 10 else 12 := by
  have hcases : ∀ r < 4, ∃ p, cfg.prof[r]? = some p ∧ p.S = if r = 0 ∨ r = 2 then 10 else 12 := by decide
  have hzero : a.toNat = 0 ↔ a = 0 := (BitVec.toNat_eq (y := 0)).symm
  have htwo : a.toNat = 2 ↔ a = 2 := (BitVec.toNat_eq (y := 2)).symm
  obtain ⟨p, hp, hS⟩ := hcases a.toNat (by omega)
  exact ⟨p, hp, by simp only [hS, hzero, htwo]⟩

/-! ### The topologies OPEN_MUX supports (R262) -/

/-- The OPEN_MUX payload of a supported topology: the profile's triple, codec DV, `n` streams of 48 kHz 16-bit stereo
PCM. -/
def muxPayload (p : Profile) (aspect n : Nat) : List Byte :=
  [0, byte p.C, byte p.S, byte aspect] ++ leBytes 4 p.frameSize ++ [byte n, 0, 0, 0]
    ++ (List.replicate n ([0, 2, 16, 0] ++ leBytes 4 48000)).flatten

/-- Four profiles, eight aspect codes and at most two streams: each supported topology passes every check. -/
theorem muxTopology_muxPayload : ∀ r < 4, ∀ p ∈ cfg.prof[r]?, ∀ aspect < 8, ∀ n < 3, n ≤ p.C →
    muxTopology ⟨0, 0, muxPayload p aspect n⟩ = .ok r := by decide

theorem channels_le_two : ∀ p ∈ cfg.prof, p.C ≤ 2 := by decide

/-- OPEN_MUX in CLOSED with a topology that passes the checks (R262). -/
theorem exec_openMux_of_muxTopology {s : State} (hm : s.mode = .closed) {pay : List Byte} {r : Nat}
    (hr : muxTopology ⟨0, 0, pay⟩ = .ok r) :
    exec (.openMux ⟨0, 0, pay⟩) s =
      .next (okState (openedMux s r (audioCount pay) (payAt pay 3).toNat) (byte r) []) := by
  show openMux ⟨0, 0, pay⟩ s = _
  rw [openMux, modeRefusal_self hm (by decide), hr]
  rfl

/-! ### The record date (R28, R272) -/

theorem dateInRange_dateAt_iff (bs : List Byte) (a : Nat) :
    dateInRange (dateAt bs a) = true ↔
      (payAt bs a).toNat ≤ 99 ∧ (payAt bs (a + 1)).toNat ≤ 19 ∧ (payAt bs (a + 2)).toNat ≤ 39 ∧
        (payAt bs (a + 3)).toNat ≤ 39 ∧ (payAt bs (a + 4)).toNat ≤ 79 ∧ (payAt bs (a + 5)).toNat ≤ 79 := by
  simp only [dateInRange, Bool.and_eq_true, decide_eq_true_eq, and_assoc]
  rfl

/-! ### The status bytes (R274) -/

theorem byte_toNat_setWidth {w : Nat} (x : BitVec w) : byte x.toNat = x.setWidth 8 := BitVec.ofNat_toNat 8 x

/-- The flag byte, bit by bit (R30). -/
theorem flagByte_eq (s : State) :
    flagByte s = 0#4 ++ BitVec.ofBool s.aovf ++ BitVec.ofBool s.vovr ++ BitVec.ofBool s.pvalid
      ++ BitVec.ofBool s.vpend := by
  have hall : ∀ vp pv vo ao : Bool, byte (vp.toNat + 2 * pv.toNat + 4 * vo.toNat + 8 * ao.toNat) =
      0#4 ++ BitVec.ofBool ao ++ BitVec.ofBool vo ++ BitVec.ofBool pv ++ BitVec.ofBool vp := by decide
  exact hall s.vpend s.pvalid s.vovr s.aovf

end Sys2Proof.Machine

/-! ### The statements -/

namespace Sys2Proof.Proofs

open Sys2Proof.Machine Sys2Proof.Safety

/-- Settles O6: the packet's parts are read back, and the opcode names no command. -/
theorem unknownOpcodeRefused : Obligations.UnknownOpcodeRefused := by
  intro s rest opc a b pay hpay hopc hin
  rw [step_of_inbox_transfer hin, runTransfer, runTransferBy, decodeAs_commandPacket opc a b hpay,
    commandOf_eq_none _ hopc, arrive_commandPacket opc a b hpay]
  rfl

/-- Settles O7: a reset leaves the reset state, whenever it comes. -/
theorem hardwareResetValues : Obligations.HardwareResetValues := by
  intro s rest hin
  exact ⟨_, step_of_reset hin, rfl, rfl, rfl, rfl, rfl, rfl, rfl, rfl, rfl, rfl, rfl, rfl, rfl, rfl, rfl, rfl,
    rfl, rfl⟩

/-- Settles O20: the operand tests in the model's order, then the three tables. -/
theorem kindLookupRule : Obligations.KindLookupRule := by
  refine ⟨fun _ => rfl, ?_⟩
  intro s o
  show pureCommand (kindLookupReply o) s = .next (
    if o.a.toNat ≥ 4 ∨ o.b ≠ 0 then endedState s .refused 0x12
    else if o.pay.length ≠ 3 then endedState s .refused 0x14
    else if (payAt o.pay 0).toNat > 2 ∨ (payAt o.pay 1).toNat ≥ (if o.a = 0 ∨ o.a = 2 then 10 else 12) ∨
        (payAt o.pay 2).toNat ≥ (lookupRow (payAt o.pay 0) (payAt o.pay 1).toNat).length then
      endedState s .refused 0x12
    else okState s ((lookupRow (payAt o.pay 0) (payAt o.pay 1).toNat).getD (payAt o.pay 2).toNat 0) [])
  unfold kindLookupReply
  by_cases ha : o.a.toNat ≥ 4
  · rw [profileAt_eq_none.2 ha, if_pos (.inl ha)]
    rfl
  obtain ⟨p, hp, hS⟩ := profileAt_segments ha
  rw [hp]
  dsimp only
  by_cases hb : o.b = 0
  · rw [if_neg (not_not.2 hb), if_neg (not_or.2 ⟨ha, not_not.2 hb⟩)]
    by_cases hlen : o.pay.length = 3
    · rw [lenOf, if_neg (not_not.2 hlen), if_neg (not_not.2 hlen), ← hS]
      have hfound := kindLookup_selector (p := p) (by rw [hS]; split <;> omega) (payAt o.pay 0)
        (payAt o.pay 1).toNat (payAt o.pay 2).toNat
      split at hfound
      · next hout => rw [if_pos hout, Option.map_eq_none_iff.1 hfound]; rfl
      · next hin =>
        obtain ⟨k, hk, hentry⟩ := Option.map_eq_some_iff.1 hfound
        rw [if_neg hin, hk, ← hentry]
        rfl
    · rw [lenOf, if_pos hlen, if_pos hlen]
      rfl
  · rw [if_pos hb, if_pos (.inr hb)]
    rfl

/-- Settles O43: the topology passes the checks, and the payload names the stream count and the aspect code. -/
theorem openMuxCompletes : Obligations.OpenMuxCompletes := by
  intro s r aspect n p hp hm haspect hn
  have hr : r < 4 := (List.getElem?_eq_some_iff.1 hp).1
  have htwo : n ≤ 2 := hn.trans (channels_le_two p (List.mem_of_getElem? hp))
  have hpass := muxTopology_muxPayload r hr p hp aspect (by omega) n (by omega) hn
  have hcount : audioCount (muxPayload p aspect n) = n := Nat.mod_eq_of_lt (show n < 2 ^ 8 by omega)
  have hcode : (payAt (muxPayload p aspect n) 3).toNat = aspect := Nat.mod_eq_of_lt (show aspect < 2 ^ 8 by omega)
  refine (exec_openMux_of_muxTopology hm hpass).trans ?_
  rw [hcount, hcode]
  rfl

/-- Settles O50: the operands, the length and the ranges in this order. -/
theorem setRecdtRule : Obligations.SetRecdtRule := by
  intro s o hm
  show execSetRecdt o s = _
  rw [execSetRecdt, modeRefusal_self hm (by decide)]
  dsimp only
  simp only [operandsZero_not_iff]
  by_cases ho : o.a ≠ 0 ∨ o.b ≠ 0
  · rw [if_pos ho, if_pos ho]
    rfl
  rw [if_neg ho, if_neg ho, lenOf]
  by_cases hlen : o.pay.length ≠ 6
  · rw [if_pos hlen, if_pos hlen]
    rfl
  rw [if_neg hlen, if_neg hlen]
  have hrange := dateInRange_dateAt_iff o.pay 0
  cases hdate : dateInRange (dateAt o.pay 0) with
  | true => rw [if_pos (hrange.1 hdate)]; rfl
  | false => rw [if_neg fun hin => nomatch hdate.symm.trans (hrange.2 hin)]; rfl

/-- Settles O51: the forty bytes one by one. -/
theorem readStatusRule : Obligations.ReadStatusRule := by
  refine ⟨fun s => ?_, fun s o ho => ?_, fun s pay hpay => ?_⟩
  · refine ⟨statusBytes s, rfl, ?_, ?_, ?_, flagByte_eq s, byte_toNat_setWidth _, byte_toNat_setWidth _, rfl,
      byte_toNat_setWidth _, byte_toNat_setWidth _, ?_, ?_, ?_, ?_, byte_toNat_setWidth _, rfl, rfl⟩
    · simp only [statusBytes, dateBytes, List.length_append, List.length_cons, List.length_nil, leBytes_length]
    · show byte (modeNumber s.mode) = _
      cases s.mode <;> rfl
    · show byte (muxStateNumber s.readMstate) = _
      unfold State.readMstate
      split
      · cases s.mstate <;> rfl
      · rfl
    · exact leNat_leBytes (k := 8) s.frames.isLt
    · refine (leNat_leBytes (k := 8) s.readAbytes.isLt).trans ?_
      unfold State.readAbytes
      split <;> rfl
    · exact leNat_leBytes_mod 4 s.fifo0.length
    · exact leNat_leBytes_mod 4 s.fifo1.length
  · show execReadStatus o s = _
    rw [execReadStatus, ite_operands_lenOf, if_pos ho]
    rfl
  · show execReadStatus ⟨0, 0, pay⟩ s = _
    rw [execReadStatus, ite_operands_lenOf, if_neg (by simp), if_pos hpay]
    rfl

/-- Settles O52: the mode, the operands and the length in this order (R329). -/
theorem openDemuxRule : Obligations.OpenDemuxRule := by
  intro s o
  show execOpenDemux o s = _
  rw [execOpenDemux]
  by_cases hfailed : s.mode = .failed
  · rw [modeRefusal, if_pos hfailed, if_pos hfailed]
    rfl
  by_cases hclosed : s.mode = .closed
  · rw [modeRefusal_self hclosed (by decide), if_neg hfailed, if_neg (not_not.2 hclosed)]
    dsimp only
    rw [ite_operands_lenOf, apply_ite Host.Outcome.next, apply_ite Host.Outcome.next]
    rfl
  · rw [modeRefusal, if_neg hfailed, if_neg hfailed, if_pos hclosed, if_pos hclosed]
    rfl

/-- Settles O53: CLOSE tests no mode. -/
theorem closeRule : Obligations.CloseRule := by
  intro s o
  show execClose o s = _
  rw [execClose, ite_operands_lenOf, apply_ite Host.Outcome.next, apply_ite Host.Outcome.next]
  rfl

end Sys2Proof.Proofs
end

section
/-! PROOFS. The frame's addresses as closed forms of a position, the order of writes in a buffer, and the statements
about what goes where in a frame: the payload address sets, the injections and SHUF_ADDR. -/

namespace Sys2Proof.Machine

open Sys2Proof.Safety

/-! ### Writes whose order does not matter (R80) -/

/-- What a write sequence leaves at an address depends on what stood at that address only. -/
theorem bufAt_applyWrites_congr {F G : Buffer} {a : Nat} (hsize : F.size = G.size) (h : bufAt F a = bufAt G a)
    (ws : List (Nat × Byte)) : bufAt (applyWrites F ws) a = bufAt (applyWrites G ws) a := by
  induction ws generalizing F G with
  | nil => exact h
  | cons w ws ih =>
    simp only [applyWrites_cons]
    refine ih (by simpa using hsize) ?_
    rw [bufAt_setIfInBounds, bufAt_setIfInBounds, hsize, h]

/-- Write sequences with no address in common commute. -/
theorem applyWrites_comm (F : Buffer) {ws ws' : List (Nat × Byte)}
    (h : ∀ a ∈ ws.map Prod.fst, a ∉ ws'.map Prod.fst) :
    applyWrites (applyWrites F ws) ws' = applyWrites (applyWrites F ws') ws := by
  refine buffer_ext (by simp) fun a _ => ?_
  by_cases ha : a ∈ ws.map Prod.fst
  · have hkept : bufAt (applyWrites F ws') a = bufAt F a := bufAt_applyWrites_of_not_mem (h a ha)
    rw [bufAt_applyWrites_of_not_mem (h a ha)]
    exact bufAt_applyWrites_congr (by simp) hkept.symm ws
  · have hkept : bufAt (applyWrites F ws) a = bufAt F a := bufAt_applyWrites_of_not_mem ha
    rw [bufAt_applyWrites_of_not_mem (F := applyWrites F ws') ha]
    exact bufAt_applyWrites_congr (by simp) hkept ws'

/-! ### The payload addresses by position (R63, R64, R72) -/

/-- Two nested ranges are one range, taken apart by quotient and remainder. -/
theorem flatMap_range_map_range {α : Type} (m n : Nat) (f : Nat → Nat → α) :
    ((List.range m).flatMap fun k => (List.range n).map (f k)) =
      (List.range (m * n)).map fun i => f (i / n) (i % n) := by
  induction m with
  | zero => rw [Nat.zero_mul]; rfl
  | succ m ih =>
    rw [List.range_succ, List.flatMap_append, ih, Nat.succ_mul, List.range_add, List.map_append, List.map_map,
      List.flatMap_singleton]
    congr 1
    refine List.map_congr_left fun j hj => ?_
    have hj : j < n := List.mem_range.1 hj
    have hn : 0 < n := by omega
    rw [Function.comp_apply, Nat.add_comm, Nat.add_mul_div_right _ _ hn, Nat.div_eq_of_lt hj,
      Nat.add_mul_mod_self_right, Nat.mod_eq_of_lt hj, Nat.zero_add]

/-- The segments in address order, numbered. -/
theorem segments_eq_map_range (p : Profile) :
    segments p = (List.range (p.C * p.S)).map fun q => (q / p.S, q % p.S) :=
  flatMap_range_map_range p.C p.S Prod.mk

/-- The frame address of byte `i` of a video unit (R205): 135 blocks of 77 payload bytes a segment. -/
def videoPayAddr (i : Nat) : Nat :=
  i / 10395 * 12000 + 80 * (7 + i % 10395 / 77 + i % 10395 / 77 / 15) + 3 + i % 10395 % 77

theorem videoAddrs_eq_map_range (p : Profile) : videoAddrs p = (List.range (videoUnit p)).map videoPayAddr := by
  rw [videoAddrs_eq, segments_eq_map_range, List.flatMap_map]
  simp only [flatMap_range_map_range, videoBlk_eq, Nat.div_add_mod']
  rw [videoUnit_eq, Nat.mul_assoc (p.C * p.S)]
  rfl

theorem videoPayAddr_injective : Function.Injective videoPayAddr := by
  intro i i' h
  simp only [videoPayAddr] at h
  omega

/-- Byte `j` of block `v` of a segment, by its position in the video unit. -/
theorem videoPayAddr_position (p : Profile) (c s : Nat) {v j : Nat} (hv : v < 135) (hj : j < 77) :
    videoPayAddr (77 * ((c * p.S + s) * 135 + v) + j) = videoBlk p c s v + 3 + j := by
  rw [videoBlk_eq, videoPayAddr]
  generalize c * p.S + s = q
  omega

theorem videoAddrs_nodup (p : Profile) : (videoAddrs p).Nodup :=
  videoAddrs_eq_map_range p ▸ List.nodup_range.map videoPayAddr_injective

theorem videoAddrs_length (p : Profile) : (videoAddrs p).length = videoUnit p := by
  rw [videoAddrs_eq_map_range, List.length_map, List.length_range]

theorem mem_segments {p : Profile} {c s : Nat} : (c, s) ∈ segments p ↔ c < p.C ∧ s < p.S := by
  simp only [segments, List.mem_flatMap, List.mem_map, List.mem_range, Prod.mk.injEq]
  constructor
  · rintro ⟨_, hc, _, hs, rfl, rfl⟩
    exact ⟨hc, hs⟩
  · rintro ⟨hc, hs⟩
    exact ⟨c, hc, s, hs, rfl, rfl⟩

theorem mem_videoAddrs {p : Profile} {a : Nat} :
    a ∈ videoAddrs p ↔ ∃ c s v j, c < p.C ∧ s < p.S ∧ v < 135 ∧ j < 77 ∧ a = videoBlk p c s v + 3 + j := by
  simp only [videoAddrs_eq, List.mem_flatMap, List.mem_map, List.mem_range, Prod.exists, mem_segments]
  constructor
  · rintro ⟨c, s, ⟨hc, hs⟩, v, hv, j, hj, rfl⟩
    exact ⟨c, s, v, j, hc, hs, hv, hj, rfl⟩
  · rintro ⟨c, s, v, j, hc, hs, hv, hj, rfl⟩
    exact ⟨c, s, ⟨hc, hs⟩, v, hv, j, hj, rfl⟩

/-- The frame address of payload byte `i` of the audio blocks of a channel: 9 blocks of 72 bytes a segment. -/
def audioPayAddr (p : Profile) (c i : Nat) : Nat :=
  (c * p.S + i / 648) * 12000 + 80 * (6 + 16 * (i % 648 / 72)) + 8 + i % 648 % 72

theorem audioAddrs_eq_map_range (p : Profile) (c : Nat) :
    audioAddrs p c = (List.range (p.S * 9 * 72)).map (audioPayAddr p c) := by
  rw [audioAddrs_eq]
  simp only [flatMap_range_map_range, audioBlk_eq]
  rw [Nat.mul_assoc p.S]
  rfl

theorem audioPayAddr_injective (p : Profile) (c : Nat) : Function.Injective (audioPayAddr p c) := by
  intro i i' h
  simp only [audioPayAddr] at h
  omega

theorem audioAddrs_nodup (p : Profile) (c : Nat) : (audioAddrs p c).Nodup :=
  audioAddrs_eq_map_range p c ▸ List.nodup_range.map (audioPayAddr_injective p c)

theorem audioAddrs_length (p : Profile) (c : Nat) : (audioAddrs p c).length = p.S * 9 * 72 := by
  rw [audioAddrs_eq_map_range, List.length_map, List.length_range]

theorem mem_audioAddrs {p : Profile} {c a : Nat} :
    a ∈ audioAddrs p c ↔ ∃ s g j, s < p.S ∧ g < 9 ∧ j < 72 ∧ a = audioBlk p c s g + 8 + j := by
  simp only [audioAddrs_eq, List.mem_flatMap, List.mem_map, List.mem_range]
  constructor
  · rintro ⟨s, hs, g, hg, j, hj, rfl⟩
    exact ⟨s, g, j, hs, hg, hj, rfl⟩
  · rintro ⟨s, g, j, hs, hg, hj, rfl⟩
    exact ⟨s, hs, g, hg, j, hj, rfl⟩

/-! ### Where a segment lies in its frame (R61, R63) -/

/-- A frame is its segments, 150 blocks of 80 bytes each (R7 (a)). -/
theorem frameSize_eq {p : Profile} (hp : p ∈ cfg.prof) : p.frameSize = p.C * p.S * 12000 := by
  rw [cfg_wellFormed.1 p hp, cfg_segBlocks, cfg_block, Nat.mul_assoc (p.C * p.S)]

theorem segmentNumber_lt {C S c s : Nat} (hc : c < C) (hs : s < S) : c * S + s < C * S :=
  calc c * S + s < c * S + S := by omega
    _ = (c + 1) * S := (Nat.succ_mul c S).symm
    _ ≤ C * S := Nat.mul_le_mul_right S hc

/-- The number of a segment names its channel and its place there. -/
theorem segmentNumber_injective {S c s c' s' : Nat} (hs : s < S) (hs' : s' < S) (h : c * S + s = c' * S + s') :
    c = c' ∧ s = s' := by
  have hS : 0 < S := by omega
  have hdiv : ∀ d t, t < S → (d * S + t) / S = d := fun d t ht => by
    rw [Nat.add_comm, Nat.add_mul_div_right _ _ hS, Nat.div_eq_of_lt ht, Nat.zero_add]
  have hc : c = c' := by rw [← hdiv c s hs, h, hdiv c' s' hs']
  subst hc
  exact ⟨rfl, Nat.add_left_cancel h⟩

/-- Every byte of every segment lies inside the frame. -/
theorem segmentByte_lt_frameSize {p : Profile} (hp : p ∈ cfg.prof) {c s i : Nat} (hc : c < p.C) (hs : s < p.S)
    (hi : i < 12000) : (c * p.S + s) * 12000 + i < p.frameSize := by
  have hq := segmentNumber_lt hc hs
  rw [frameSize_eq hp]
  omega

theorem videoAddrs_lt_frameSize {p : Profile} (hp : p ∈ cfg.prof) {a : Nat} (h : a ∈ videoAddrs p) :
    a < p.frameSize := by
  obtain ⟨c, s, v, j, hc, hs, hv, hj, rfl⟩ := mem_videoAddrs.1 h
  rw [videoBlk_eq, Nat.add_assoc, Nat.add_assoc]
  exact segmentByte_lt_frameSize hp hc hs (by omega)

theorem audioAddrs_lt_frameSize {p : Profile} (hp : p ∈ cfg.prof) {c a : Nat} (hc : c < p.C)
    (h : a ∈ audioAddrs p c) : a < p.frameSize := by
  obtain ⟨s, g, j, hs, hg, hj, rfl⟩ := mem_audioAddrs.1 h
  rw [audioBlk_eq, Nat.add_assoc, Nat.add_assoc]
  exact segmentByte_lt_frameSize hp hc hs (by omega)

/-- Audio blocks are the blocks `6 + 16 * g` of a segment, and no video block is one of them. -/
theorem audioAddrs_disjoint_videoAddrs {p : Profile} {c a : Nat} (h : a ∈ audioAddrs p c) : a ∉ videoAddrs p := by
  intro h'
  obtain ⟨s, g, j, -, hg, hj, ha⟩ := mem_audioAddrs.1 h
  obtain ⟨c', s', v, j', -, -, hv, hj', ha'⟩ := mem_videoAddrs.1 h'
  rw [audioBlk_eq] at ha
  rw [videoBlk_eq] at ha'
  generalize c * p.S + s = q at ha
  generalize c' * p.S + s' = q' at ha'
  have hblock : q * 150 + (6 + 16 * g) = q' * 150 + (7 + v + v / 15) := by omega
  have hplace : 6 + 16 * g = 7 + v + v / 15 := by omega
  omega

/-- The audio payloads of two channels lie in different segments. -/
theorem audioAddrs_disjoint {p : Profile} {c c' a : Nat} (hne : c' ≠ c) (h : a ∈ audioAddrs p c) :
    a ∉ audioAddrs p c' := by
  intro h'
  obtain ⟨s, g, j, hs, hg, hj, ha⟩ := mem_audioAddrs.1 h
  obtain ⟨s', g', j', hs', hg', hj', ha'⟩ := mem_audioAddrs.1 h'
  rw [audioBlk_eq] at ha ha'
  have hq : c * p.S + s = c' * p.S + s' := by omega
  exact hne (segmentNumber_injective hs hs' hq).1.symm

/-! ### What the injectors write (R205, R233) -/

/-- Every write of a video injection is at a video payload address. -/
theorem mem_videoAddrs_of_mem_zip {p : Profile} {V : List Byte} {a : Nat}
    (h : a ∈ ((videoAddrs p).zip V).map Prod.fst) : a ∈ videoAddrs p := by
  obtain ⟨⟨a, b⟩, hw, rfl⟩ := List.mem_map.1 h
  exact (List.of_mem_zip hw).1

/-- Every write of an audio injection is at an audio payload address of its channel: slot `k` of a block is its bytes
`8 + 2 * k` and `9 + 2 * k`. -/
theorem mem_audioAddrs_of_mem_shuffleWrites {p : Profile} {c size a : Nat} {P : Buffer}
    (h : a ∈ (shuffleWrites p c P size).map Prod.fst) : a ∈ audioAddrs p c := by
  obtain ⟨w, hw, rfl⟩ := List.mem_map.1 h
  obtain ⟨⟨s, g, k⟩, hslot, hw⟩ := List.mem_flatMap.1 hw
  obtain ⟨hs, hg, hk⟩ := mem_slots.1 hslot
  split at hw
  · rw [mem_audioAddrs]
    rcases List.mem_pair.1 hw with rfl | rfl
    · exact ⟨s, g, 2 * k, hs, hg, by omega, rfl⟩
    · exact ⟨s, g, 2 * k + 1, hs, hg, by omega, by simp only [slotAddr_eq, audioBlk_eq, Nat.add_assoc]⟩
  · cases hw

theorem bufAt_injectVideo_of_not_mem {p : Profile} (F : Buffer) (V : List Byte) {a : Nat} (h : a ∉ videoAddrs p) :
    bufAt (injectVideo p F V) a = bufAt F a :=
  bufAt_applyWrites_of_not_mem (mt mem_videoAddrs_of_mem_zip h)

theorem bufAt_shuffle16_of_not_mem {p : Profile} (F : Buffer) {c : Nat} (P : Buffer) (size : Nat) {a : Nat}
    (h : a ∉ audioAddrs p c) : bufAt (shuffle16 p F c P size) a = bufAt F a :=
  bufAt_applyWrites_of_not_mem (mt mem_audioAddrs_of_mem_shuffleWrites h)

/-- Byte `i` of a whole video unit goes to the `i`-th payload address. -/
theorem bufAt_injectVideo_videoPayAddr {p : Profile} (hp : p ∈ cfg.prof) {F : Buffer} {V : List Byte}
    (hF : F.size = p.frameSize) (hV : V.length = videoUnit p) {i : Nat} (hi : i < videoUnit p) :
    bufAt (injectVideo p F V) (videoPayAddr i) = payAt V i := by
  have hmem : videoPayAddr i ∈ videoAddrs p := by
    rw [videoAddrs_eq_map_range]
    exact List.mem_map_of_mem (List.mem_range.2 hi)
  refine bufAt_applyWrites_of_mem ?_ ?_ (hF ▸ videoAddrs_lt_frameSize hp hmem)
  · rw [List.map_fst_zip (by rw [videoAddrs_length, hV])]
    exact videoAddrs_nodup p
  · rw [videoAddrs_eq_map_range, List.mem_iff_getElem]
    have hlen : i < (((List.range (videoUnit p)).map videoPayAddr).zip V).length := by
      rwa [List.length_zip, List.length_map, List.length_range, hV, Nat.min_self]
    refine ⟨i, hlen, ?_⟩
    rw [List.getElem_zip, List.getElem_map, List.getElem_range, payAt, List.getD_eq_getElem]

/-- The chunks of a video unit go to the payloads of the video blocks, segment by segment (R205). -/
theorem bufAt_injectVideo_videoBlk {p : Profile} (hp : p ∈ cfg.prof) {F : Buffer} {V : List Byte}
    (hF : F.size = p.frameSize) (hV : V.length = videoUnit p) {c s v j : Nat} (hc : c < p.C) (hs : s < p.S)
    (hv : v < 135) (hj : j < 77) :
    bufAt (injectVideo p F V) (videoBlk p c s v + 3 + j) = payAt V (77 * ((c * p.S + s) * 135 + v) + j) := by
  have hq := segmentNumber_lt hc hs
  rw [← videoPayAddr_position p c s hv hj]
  refine bufAt_injectVideo_videoPayAddr hp hF hV ?_
  rw [videoUnit_eq]
  omega

/-! ### Commands that take a profile in `A` and no `B` (R100, R115, R329) -/

/-- The operand test of a command whose `A` is a profile id and whose `B` is unused. -/
def withProfile (o : Operands) (f : Profile → Except Kind Reply) : Except Kind Reply :=
  (profileAt o.a).elim (.error .badOperand) fun p => if o.b ≠ 0 then .error .badOperand else f p

theorem withProfile_refused {o : Operands} (h : o.a.toNat ≥ 4 ∨ o.b ≠ 0) (f : Profile → Except Kind Reply) :
    withProfile o f = .error .badOperand := by
  cases hp : profileAt o.a with
  | none => rw [withProfile, hp]; rfl
  | some p =>
    have ha : ¬ o.a.toNat ≥ 4 := fun ha => nomatch hp.symm.trans (profileAt_eq_none.2 ha)
    rw [withProfile, hp, Option.elim_some, if_pos (h.resolve_left ha)]

theorem withProfile_of_prof {r : Nat} {p : Profile} (hp : cfg.prof[r]? = some p) (pay : List Byte)
    (f : Profile → Except Kind Reply) : withProfile ⟨byte r, 0, pay⟩ f = f p := by
  rw [withProfile, profileAt_byte hp]
  rfl

theorem injectVideoReply_eq (o : Operands) :
    injectVideoReply o = withProfile o fun p =>
      if lenOf o ≠ p.frameSize + videoUnit p then .error .lengthMismatch
      else .ok ⟨0, (injectVideo p (o.pay.take p.frameSize).toArray (o.pay.drop p.frameSize)).toList⟩ := by
  unfold injectVideoReply withProfile
  cases profileAt o.a <;> rfl

/-- The test of the four payload bytes of SHUF_ADDR and its answer (R231). -/
theorem shufAddrReply_eq (o : Operands) :
    shufAddrReply o = withProfile o fun p =>
      if lenOf o ≠ 4 then .error .lengthMismatch
      else if (payAt o.pay 0).toNat < p.C ∧ (payAt o.pay 1).toNat < p.S ∧ (payAt o.pay 2).toNat < 9 ∧
          (payAt o.pay 3).toNat < 36 then
        .ok ⟨0, leBytes 4 (sidx p (payAt o.pay 1).toNat (payAt o.pay 2).toNat (payAt o.pay 3).toNat)
          ++ leBytes 4 (slotAddr p (payAt o.pay 0).toNat (payAt o.pay 1).toNat (payAt o.pay 2).toNat
            (payAt o.pay 3).toNat)⟩
      else .error .badOperand := by
  unfold shufAddrReply withProfile
  cases profileAt o.a <;> rfl

/-- A payload of four bytes is the channel, the segment, the audio block and the slot (R231). -/
theorem shufAddrReply_of_bytes {r : Nat} {p : Profile} (hp : cfg.prof[r]? = some p) (c s g k : Byte) :
    shufAddrReply ⟨byte r, 0, [c, s, g, k]⟩ =
      if c.toNat < p.C ∧ s.toNat < p.S ∧ g.toNat < 9 ∧ k.toNat < 36 then
        .ok ⟨0, leBytes 4 (sidx p s.toNat g.toNat k.toNat)
          ++ leBytes 4 (slotAddr p c.toNat s.toNat g.toNat k.toNat)⟩
      else .error .badOperand := by
  rw [shufAddrReply_eq, withProfile_of_prof hp]
  rfl

/-- A pure command answers class OK exactly with its reply (R102). -/
theorem pureCommand_eq_okState {r : Except Kind Reply} {s : State} {ra : Byte} {v : List Byte} :
    pureCommand r s = .next (okState s ra v) ↔ r = .ok ⟨ra, v⟩ := by
  constructor
  · intro h
    have hresp := congrArg State.response (Host.Outcome.next.inj h)
    cases r with
    | ok w =>
      obtain ⟨rfl, rfl⟩ : w.ra = ra ∧ w.rpay = v := by simpa [State.respond] using hresp
      rfl
    | error k => cases k <;> simp [State.raise, kindResponse, kindClass] at hresp
  · rintro rfl
    rfl

/-- A frame and a unit behind it are the two parts of the payload (R205, R206). -/
theorem injectVideoReply_of_length {r : Nat} {p : Profile} (hp : cfg.prof[r]? = some p) {F V : List Byte}
    (hF : F.length = p.frameSize) (hV : V.length = videoUnit p) :
    injectVideoReply ⟨byte r, 0, F ++ V⟩ = .ok ⟨0, (injectVideo p F.toArray V).toList⟩ := by
  have hlen : lenOf ⟨byte r, 0, F ++ V⟩ = p.frameSize + videoUnit p := by
    rw [lenOf, List.length_append, hF, hV]
  rw [injectVideoReply_eq, withProfile_of_prof hp, if_neg (not_not.2 hlen), List.take_left' hF, List.drop_left' hF]

theorem injectVideoReply_of_length_ne {r : Nat} {p : Profile} (hp : cfg.prof[r]? = some p) {pay : List Byte}
    (h : pay.length ≠ p.frameSize + videoUnit p) :
    injectVideoReply ⟨byte r, 0, pay⟩ = .error .lengthMismatch := by
  rw [injectVideoReply_eq, withProfile_of_prof hp]
  exact if_pos h

/-- An audio injection that answers has shuffled what stands behind the frame (R206). -/
theorem injectAudioReply_ok {r : Nat} {p : Profile} (hp : cfg.prof[r]? = some p) {b : Half} {F P F' : List Byte}
    (hF : F.length = p.frameSize) (h : injectAudioReply ⟨byte r, b, F ++ P⟩ = .ok ⟨0, F'⟩) :
    F' = (shuffle16 p F.toArray b.toNat P.toArray P.length).toList := by
  unfold injectAudioReply at h
  rw [profileAt_byte hp] at h
  dsimp only at h
  split at h; · cases h
  split at h; · cases h
  split at h; · cases h
  obtain rfl := congrArg Reply.rpay (Except.ok.inj h)
  rw [List.take_left' hF, List.drop_left' hF, lenOf, List.length_append, hF, Nat.add_sub_cancel_left]

end Sys2Proof.Machine

/-! ### The statements -/

namespace Sys2Proof.Proofs

open Sys2Proof.Machine Sys2Proof.Safety

/-- Settles O31: the address sets in closed form, and the addresses of the injectors' writes among them. -/
theorem payloadAddressSets : Obligations.PayloadAddressSets := by
  intro s r p hr
  have hp : p ∈ cfg.prof := List.mem_of_getElem? hr
  refine ⟨fun a => ?_, fun c a => ?_,
    ⟨videoAddrs_nodup p, videoAddrs_length p, fun a => videoAddrs_lt_frameSize hp⟩,
    fun c hc => ⟨audioAddrs_nodup p c, audioAddrs_length p c, fun a ha =>
      ⟨audioAddrs_lt_frameSize hp hc ha, audioAddrs_disjoint_videoAddrs ha, fun c' _ hne =>
        audioAddrs_disjoint hne ha⟩⟩, ?_, ?_⟩
  · rw [mem_videoAddrs]
    constructor
    · rintro ⟨c, sg, v, j, hc, hs, hv, hj, rfl⟩
      exact ⟨c, sg, v, hc, hs, hv, by omega, by omega⟩
    · rintro ⟨c, sg, v, hc, hs, hv, hlo, hhi⟩
      exact ⟨c, sg, v, a - (videoBlk p c sg v + 3), hc, hs, hv, by omega, by omega⟩
  · rw [mem_audioAddrs]
    constructor
    · rintro ⟨sg, g, j, hs, hg, hj, rfl⟩
      exact ⟨sg, g, hs, hg, by omega, by omega⟩
    · rintro ⟨sg, g, hs, hg, hlo, hhi⟩
      exact ⟨sg, g, a - (audioBlk p c sg g + 8), hs, hg, by omega, by omega⟩
  · intro F V F' hF hexec a ha
    have hreply : injectVideoReply ⟨byte r, 0, F ++ V⟩ = .ok ⟨0, F'⟩ := pureCommand_eq_okState.1 hexec
    by_cases hV : V.length = videoUnit p
    · rw [injectVideoReply_of_length hr hF hV] at hreply
      obtain rfl := congrArg Reply.rpay (Except.ok.inj hreply)
      rw [payAt_toList, bufAt_injectVideo_of_not_mem _ _ ha, bufAt_toArray]
    · rw [injectVideoReply_of_length_ne hr (by rw [List.length_append]; omega)] at hreply
      cases hreply
  · intro c F P F' hc hF hexec a ha
    have hc2 : c ≤ 2 := hc.le.trans (channels_le_two p hp)
    have hb : (BitVec.ofNat 16 c).toNat = c := Nat.mod_eq_of_lt (by omega)
    have hreply : injectAudioReply ⟨byte r, BitVec.ofNat 16 c, F ++ P⟩ = .ok ⟨0, F'⟩ :=
      pureCommand_eq_okState.1 hexec
    rw [injectAudioReply_ok hr hF hreply, hb, payAt_toList, bufAt_shuffle16_of_not_mem _ _ _ ha, bufAt_toArray]

/-- Settles O32: the injectors write at disjoint addresses. -/
theorem injectionsCommute : Obligations.InjectionsCommute := by
  intro p _ F V P P' c c' size size' _ _ _ _
  constructor
  · refine applyWrites_comm F fun a hvideo haudio => ?_
    exact audioAddrs_disjoint_videoAddrs (mem_audioAddrs_of_mem_shuffleWrites haudio) (mem_videoAddrs_of_mem_zip hvideo)
  · intro hne
    refine applyWrites_comm F fun a hfirst hsecond => ?_
    exact audioAddrs_disjoint hne.symm (mem_audioAddrs_of_mem_shuffleWrites hfirst)
      (mem_audioAddrs_of_mem_shuffleWrites hsecond)

/-- Settles O28: byte `i` of the unit goes to the `i`-th payload address, and nothing else is written. -/
theorem injectVideoRule : Obligations.InjectVideoRule := by
  refine ⟨fun _ => rfl, fun s r p hr => ⟨fun F V hF hV => ?_, fun pay hpay => ?_, fun o ho => ?_⟩⟩
  · have hp : p ∈ cfg.prof := List.mem_of_getElem? hr
    have hsize : F.toArray.size = p.frameSize := hF
    refine ⟨_, pureCommand_eq_okState.2 (injectVideoReply_of_length hr hF hV), ?_, ?_, ?_⟩
    · rw [Array.length_toList, injectVideo_size, hsize]
    · intro c sg v j hc hs hv hj
      rw [payAt_toList, bufAt_injectVideo_videoBlk hp hsize hV hc hs hv hj]
    · intro a ha
      have hout : a ∉ videoAddrs p := fun hmem => by
        obtain ⟨c, sg, v, j, hc, hs, hv, hj, heq⟩ := mem_videoAddrs.1 hmem
        exact ha c sg v j hc hs hv hj heq
      rw [payAt_toList, bufAt_injectVideo_of_not_mem _ _ hout, bufAt_toArray]
  · show pureCommand (injectVideoReply ⟨byte r, 0, pay⟩) s = _
    rw [injectVideoReply_of_length_ne hr hpay]
    rfl
  · show pureCommand (injectVideoReply o) s = _
    rw [injectVideoReply_eq, withProfile_refused ho]
    rfl

/-- Settles O35: four bytes in range name a slot, and the slot's index and address are those of R230 and R64. -/
theorem shufAddrRule : Obligations.ShufAddrRule := by
  refine ⟨fun _ => rfl, fun s r p hr => ⟨?_, ?_, fun pay hpay => ?_, fun o ho => ?_⟩⟩
  · intro c sg g k hc hslot
    have hp : p ∈ cfg.prof := List.mem_of_getElem? hr
    have hbounds : ∀ p ∈ cfg.prof, p.C ≤ 2 ∧ p.S ≤ 12 := by decide
    obtain ⟨hC, hS⟩ := hbounds p hp
    obtain ⟨hs, hg, hk⟩ := hslot
    have hread : ∀ n < 256, (byte n).toNat = n := fun n hn => (byte_toNat n).trans (Nat.mod_eq_of_lt hn)
    refine pureCommand_eq_okState.2 ?_
    rw [shufAddrReply_of_bytes hr, hread c (by omega), hread sg (by omega), hread g (by omega), hread k (by omega),
      if_pos ⟨hc, hs, hg, hk⟩]
    rfl
  · intro c sg g k hout
    rw [slotInRange] at hout
    show pureCommand (shufAddrReply ⟨byte r, 0, [c, sg, g, k]⟩) s = _
    rw [shufAddrReply_of_bytes hr, if_neg hout]
    rfl
  · show pureCommand (shufAddrReply ⟨byte r, 0, pay⟩) s = _
    rw [shufAddrReply_eq, withProfile_of_prof hr]
    exact congrArg (pureCommand · s) (if_pos hpay)
  · show pureCommand (shufAddrReply o) s = _
    rw [shufAddrReply_eq, withProfile_refused ho]
    rfl

end Sys2Proof.Proofs
end

section
/-! PROOFS. FORMAT_FRAME: what each part of the skeleton writes, block by block, and the statement about every byte of
the frame. -/

namespace Sys2Proof.Machine

open Sys2Proof.Safety

/-! ### Runs of writes (R9, R80) -/

/-- Whether a write sequence writes exactly the `n` addresses from `a` on, and byte `f i` at the `i`-th of them. -/
def WritesRun (ws : List (Nat × Byte)) (a n : Nat) (f : Nat → Byte) : Prop :=
  ∀ w, w ∈ ws ↔ ∃ i < n, w = (a + i, f i)

theorem writesRun_writesAt {bs : List Byte} {n : Nat} (h : bs.length = n) (a : Nat) :
    WritesRun (writesAt a bs) a n (payAt bs) := by
  subst h
  intro w
  rw [writesAt, List.mem_mapIdx]
  constructor
  · rintro ⟨i, hi, rfl⟩
    exact ⟨i, hi, by rw [payAt, List.getD_eq_getElem]⟩
  · rintro ⟨i, hi, rfl⟩
    exact ⟨i, hi, by rw [payAt, List.getD_eq_getElem]⟩

theorem WritesRun.congr {ws : List (Nat × Byte)} {a n : Nat} {f g : Nat → Byte} (h : WritesRun ws a n f)
    (heq : ∀ i < n, f i = g i) : WritesRun ws a n g := by
  intro w
  rw [h w]
  constructor
  · rintro ⟨i, hi, rfl⟩
    exact ⟨i, hi, by rw [heq i hi]⟩
  · rintro ⟨i, hi, rfl⟩
    exact ⟨i, hi, by rw [heq i hi]⟩

/-- Two runs one behind the other are a run. -/
theorem WritesRun.append {ws ws' : List (Nat × Byte)} {a n m : Nat} {f g : Nat → Byte} (h : WritesRun ws a n f)
    (h' : WritesRun ws' (a + n) m g) :
    WritesRun (ws ++ ws') a (n + m) fun i => if i < n then f i else g (i - n) := by
  intro w
  rw [List.mem_append, h w, h' w]
  constructor
  · rintro (⟨i, hi, rfl⟩ | ⟨i, hi, rfl⟩)
    · exact ⟨i, by omega, by simp only [if_pos hi]⟩
    · exact ⟨n + i, by omega, by simp only [Nat.not_lt.2 (Nat.le_add_right n i), if_false, Nat.add_sub_cancel_left,
        Nat.add_assoc]⟩
  · rintro ⟨i, hi, rfl⟩
    by_cases hn : i < n
    · exact .inl ⟨i, hn, by simp only [if_pos hn]⟩
    · exact .inr ⟨i - n, by omega, by simp only [if_neg hn, Nat.add_assoc, Nat.add_sub_cancel' (Nat.not_lt.1 hn)]⟩

/-- Runs of one length one behind the other are a run. -/
theorem WritesRun.flatMap {m n a : Nat} {ws : Nat → List (Nat × Byte)} {f : Nat → Nat → Byte}
    (h : ∀ k < m, WritesRun (ws k) (a + n * k) n (f k)) :
    WritesRun ((List.range m).flatMap ws) a (n * m) fun i => f (i / n) (i % n) := by
  intro w
  simp only [List.mem_flatMap, List.mem_range]
  constructor
  · rintro ⟨k, hk, hw⟩
    obtain ⟨i, hi, rfl⟩ := (h k hk w).1 hw
    have hle : n * (k + 1) ≤ n * m := Nat.mul_le_mul_left n hk
    rw [Nat.mul_succ] at hle
    refine ⟨n * k + i, by omega, ?_⟩
    rw [Nat.mul_add_div (by omega), Nat.div_eq_of_lt hi, Nat.mul_add_mod, Nat.mod_eq_of_lt hi, Nat.add_assoc,
      Nat.add_zero]
  · rintro ⟨i, hi, rfl⟩
    have hn : 0 < n := Nat.pos_of_ne_zero fun h0 => by simp [h0] at hi
    have hk : i / n < m := Nat.div_lt_of_lt_mul hi
    exact ⟨i / n, hk, (h _ hk _).2 ⟨i % n, Nat.mod_lt i hn, by rw [Nat.add_assoc, Nat.div_add_mod]⟩⟩

/-- At an address where every write of a sequence writes the same byte, that byte stands, whatever their order. -/
theorem bufAt_applyWrites_of_forall_mem {F : Buffer} {ws : List (Nat × Byte)} {a : Nat} {b : Byte}
    (hmem : a ∈ ws.map Prod.fst) (hsame : ∀ w ∈ ws, w.1 = a → w.2 = b) (ha : a < F.size) :
    bufAt (applyWrites F ws) a = b := by
  induction ws generalizing F with
  | nil => cases hmem
  | cons w ws ih =>
    rw [applyWrites_cons]
    by_cases htail : a ∈ ws.map Prod.fst
    · exact ih htail (fun w' hw' => hsame w' (List.mem_cons_of_mem w hw')) (by simpa using ha)
    · have hhead : w.1 = a := ((List.mem_cons.1 hmem).resolve_right htail).symm
      rw [bufAt_applyWrites_of_not_mem htail, bufAt_setIfInBounds, if_pos ⟨hhead, ha⟩]
      exact hsame w List.mem_cons_self hhead

/-! ### The packs of a skeleton (R200) -/

theorem hdr_mem_kindsWritten (p : Profile) (x : Ctx) : PackKind.hdr ∈ kindsWritten p x := List.mem_cons_self

theorem mem_kindsWritten_of_segment {p : Profile} {x : Ctx} {s : Nat} (hs : s < p.S) {k : PackKind}
    (h : k ∈ (List.range 6).map (fun i => subKind s i) ++ (List.range 15).map (fun i => auxKind s i)
      ++ (List.range 9).map fun g => if x.naudio > 0 then audKind s g else .nopack) : k ∈ kindsWritten p x :=
  List.mem_cons_of_mem _ (List.mem_flatMap.2 ⟨s, List.mem_range.2 hs, h⟩)

theorem subKind_mem_kindsWritten {p : Profile} (x : Ctx) {s i : Nat} (hs : s < p.S) (hi : i < 6) :
    subKind s i ∈ kindsWritten p x :=
  mem_kindsWritten_of_segment hs <| List.mem_append_left _ <| List.mem_append_left _ <|
    List.mem_map_of_mem (List.mem_range.2 hi)

theorem auxKind_mem_kindsWritten {p : Profile} (x : Ctx) {s i : Nat} (hs : s < p.S) (hi : i < 15) :
    auxKind s i ∈ kindsWritten p x :=
  mem_kindsWritten_of_segment hs <| List.mem_append_left _ <| List.mem_append_right _ <|
    List.mem_map_of_mem (List.mem_range.2 hi)

theorem audioKind_mem_kindsWritten {p : Profile} (x : Ctx) {s g : Nat} (hs : s < p.S) (hg : g < 9) :
    (if x.naudio > 0 then audKind s g else .nopack) ∈ kindsWritten p x :=
  mem_kindsWritten_of_segment hs <| List.mem_append_right _ <| List.mem_map.2 ⟨g, List.mem_range.2 hg, rfl⟩

/-- Whether every pack of a skeleton is made: five bytes each (R109, R178). -/
def PacksMade (p : Profile) (x : Ctx) : Prop := ∀ k ∈ kindsWritten p x, (packBytes k p x).length = 5

/-- Everything `FormatFrame` can do (R200, R178). -/
theorem formatFrame_cases (p : Profile) (x : Ctx) :
    (PacksMade p x ∧ (∀ k ∈ kindsWritten p x, (makePack k p x).isOk = true) ∧
      formatFrame p x = .ok (applyWrites (blankFrame p) (formatWrites p x))) ∨
    ((∃ k ∈ kindsWritten p x, (makePack k p x).isOk = false) ∧ formatFrame p x = .error .fieldRange) := by
  unfold formatFrame
  cases h : (kindsWritten p x).all fun k => (makePack k p x).isOk with
  | true => exact .inl ⟨fun k hk => packBytes_length (List.all_eq_true.1 h k hk), List.all_eq_true.1 h, rfl⟩
  | false =>
    obtain ⟨k, hk, hbad⟩ := List.all_eq_false.1 h
    exact .inr ⟨⟨k, hk, by simpa using hbad⟩, rfl⟩

/-! ### What a skeleton writes in a block (R64 to R71, R200) -/

/-- How many bytes of block `b` of a segment the skeleton writes; what is behind them stays filler (R66 to R71). -/
def writtenLen (b : Nat) : Nat :=
  if b = 0 then 8 else if b < 3 then 51 else if b < 6 then 78 else if (b - 6) % 16 = 0 then 8 else 3

theorem writtenLen_lt_block (b : Nat) : writtenLen b < 80 := by
  unfold writtenLen
  split_ifs <;> decide

theorem skeletonByte_fill (p : Profile) (x : Ctx) (c s : Nat) {b j : Nat} (h : writtenLen b ≤ j) :
    skeletonByte p x c s b j = 0xFF := by
  rw [writtenLen] at h
  rw [skeletonByte]
  split at h
  · next hheader => rw [if_pos hheader, if_neg (by omega), if_neg (by omega)]
  next hheader =>
  rw [if_neg hheader]
  split at h
  · next hsub => rw [if_pos hsub, if_neg (by omega), if_neg (by omega)]
  next hsub =>
  rw [if_neg hsub]
  split at h
  · next haux => rw [if_pos haux, if_neg (by omega), if_neg (by omega)]
  next haux =>
  rw [if_neg haux]
  split at h
  · next haudio => rw [if_pos haudio, if_neg (by omega), if_neg (by omega)]
  · next haudio => rw [if_neg haudio, if_neg (by omega)]

/-- Whether a write sequence is the skeleton's part of block `b` of a segment: the bytes that are not filler, at their
addresses (R63, R64). -/
def WritesBlock (p : Profile) (x : Ctx) (c s b : Nat) (ws : List (Nat × Byte)) : Prop :=
  WritesRun ws ((c * p.S + s) * 12000 + 80 * b) (writtenLen b) (skeletonByte p x c s b)

/-! The branches of `skeletonByte`, in the order of R66 to R71. -/

theorem skeletonByte_header (p : Profile) (x : Ctx) (c s : Nat) {i : Nat} (hi : i < 8) :
    skeletonByte p x c s 0 i = if i < 3 then payAt (blkId .header c s 0) i else packByte .hdr p x (i - 3) := by
  rw [skeletonByte, if_pos rfl, if_pos hi]

theorem skeletonByte_subcode (p : Profile) (x : Ctx) (c s : Nat) {j i : Nat} (hj : j < 2) (hi : i < 51) :
    skeletonByte p x c s (1 + j) i =
      if i < 3 then payAt (blkId .subcode c s j) i
      else if (i - 3) % 8 < 3 then payAt (subIdOf p s ((i - 3) / 8)) ((i - 3) % 8)
      else packByte (subKind s ((i - 3) / 8)) p x ((i - 3) % 8 - 3) := by
  rw [skeletonByte, if_neg (by omega), if_pos (by omega), if_pos hi, Nat.add_sub_cancel_left]

theorem skeletonByte_aux (p : Profile) (x : Ctx) (c s : Nat) {j i : Nat} (hj : j < 3) (hi : i < 78) :
    skeletonByte p x c s (3 + j) i =
      if i < 3 then payAt (blkId .aux c s j) i else packByte (auxKind s ((i - 3) / 5)) p x ((i - 3) % 5) := by
  rw [skeletonByte, if_neg (by omega), if_neg (by omega), if_pos (by omega), if_pos hi, Nat.add_sub_cancel_left]

theorem skeletonByte_audio (p : Profile) (x : Ctx) (c s g : Nat) {i : Nat} (hi : i < 8) :
    skeletonByte p x c s (6 + 16 * g) i =
      if i < 3 then payAt (blkId .audio c s g) i
      else packByte (if x.naudio > 0 then audKind s g else .nopack) p x (i - 3) := by
  rw [skeletonByte, if_neg (by omega), if_neg (by omega), if_neg (by omega), Nat.add_sub_cancel_left,
    if_pos (Nat.mul_mod_right 16 g), if_pos hi, Nat.mul_div_cancel_left g (by decide)]

theorem skeletonByte_video (p : Profile) (x : Ctx) (c s g : Nat) {i j : Nat} (hi : i < 15) (hj : j < 3) :
    skeletonByte p x c s (7 + 16 * g + i) j = payAt (blkId .video c s (15 * g + i)) j := by
  have hnum : 15 * ((7 + 16 * g + i - 6) / 16) + ((7 + 16 * g + i - 6) % 16 - 1) = 15 * g + i := by omega
  rw [skeletonByte, if_neg (by omega), if_neg (by omega), if_neg (by omega), if_neg (by omega), if_pos hj, hnum]

theorem blkId_length (t : Section) (c s num : Nat) : (blkId t c s num).length = 3 := rfl

theorem subIdOf_length (p : Profile) (s k : Nat) : (subIdOf p s k).length = 3 := rfl

section Blocks

variable {p : Profile} {x : Ctx} (hpacks : PacksMade p x)
  (c : Nat) {s : Nat} (hs : s < p.S)

include hpacks

theorem headerWrites_block (s : Nat) : WritesBlock p x c s 0 (headerWrites p x c s) := by
  have hlen : writtenLen 0 = 3 + 5 := rfl
  have haddr : (c * p.S + s) * 12000 + 80 * 0 = headerBlk p c s := by
    rw [headerBlk_eq, Nat.mul_zero, Nat.add_zero]
  rw [WritesBlock, hlen, haddr]
  exact ((writesRun_writesAt (blkId_length .header c s 0) (headerBlk p c s)).append
    (writesRun_writesAt (hpacks _ (hdr_mem_kindsWritten p x)) (headerBlk p c s + 3))).congr
      fun _ hi => (skeletonByte_header p x c s hi).symm

include hs

/-- A subcode block is its id and six sub-records of an id and a pack (R67). -/
theorem subcodeWrites_block {j : Nat} (hj : j < 2) : WritesBlock p x c s (1 + j) (subcodeWrites p x c s j) := by
  have hlen : writtenLen (1 + j) = 3 + (3 + 5) * 6 := by
    rw [writtenLen, if_neg (by omega), if_pos (by omega)]
  rw [WritesBlock, hlen, ← subBlk_eq]
  have hrecords := WritesRun.flatMap (a := subBlk p c s j + 3) (m := 6) fun k hk =>
    (writesRun_writesAt (subIdOf_length p s k) (subBlk p c s j + 3 + (3 + 5) * k)).append
      (writesRun_writesAt (hpacks _ (subKind_mem_kindsWritten x hs hk)) (subBlk p c s j + 3 + (3 + 5) * k + 3))
  exact ((writesRun_writesAt (blkId_length .subcode c s j) (subBlk p c s j)).append hrecords).congr
    fun _ hi => (skeletonByte_subcode p x c s hj hi).symm

/-- An auxiliary block is its id and fifteen packs (R68). -/
theorem auxWrites_block {j : Nat} (hj : j < 3) : WritesBlock p x c s (3 + j) (auxWrites p x c s j) := by
  have hlen : writtenLen (3 + j) = 3 + 5 * 15 := by
    rw [writtenLen, if_neg (by omega), if_neg (by omega), if_pos (by omega)]
  rw [WritesBlock, hlen, ← auxBlk_eq]
  have hrecords := WritesRun.flatMap (a := auxBlk p c s j + 3) (m := 15) fun k hk =>
    writesRun_writesAt (hpacks _ (auxKind_mem_kindsWritten x hs hk)) (auxBlk p c s j + 3 + 5 * k)
  exact ((writesRun_writesAt (blkId_length .aux c s j) (auxBlk p c s j)).append hrecords).congr
    fun _ hi => (skeletonByte_aux p x c s hj hi).symm

/-- The skeleton's part of an audio block is its id and one pack (R70). -/
theorem audioWrites_block {g : Nat} (hg : g < 9) :
    WritesBlock p x c s (6 + 16 * g) (writesAt (audioBlk p c s g) (blkId .audio c s g) ++
      writesAt (audioBlk p c s g + 3) (packBytes (if x.naudio > 0 then audKind s g else .nopack) p x)) := by
  have hlen : writtenLen (6 + 16 * g) = 3 + 5 := by
    rw [writtenLen, if_neg (by omega), if_neg (by omega), if_neg (by omega), if_pos (by omega)]
  rw [WritesBlock, hlen, ← audioBlk_eq]
  exact ((writesRun_writesAt (blkId_length .audio c s g) (audioBlk p c s g)).append
    (writesRun_writesAt (hpacks _ (audioKind_mem_kindsWritten x hs hg)) (audioBlk p c s g + 3))).congr
      fun _ hi => (skeletonByte_audio p x c s g hi).symm

omit hpacks hs

/-- The skeleton's part of a video block is its id (R71); 15 video blocks follow each audio block (R64). -/
theorem videoWrites_block (s : Nat) {g i : Nat} (hi : i < 15) :
    WritesBlock p x c s (7 + 16 * g + i)
      (writesAt (videoBlk p c s (15 * g + i)) (blkId .video c s (15 * g + i))) := by
  have hlen : writtenLen (7 + 16 * g + i) = 3 := by
    rw [writtenLen, if_neg (by omega), if_neg (by omega), if_neg (by omega), if_neg (by omega)]
  have haddr : (c * p.S + s) * 12000 + 80 * (7 + 16 * g + i) = videoBlk p c s (15 * g + i) := by
    rw [videoBlk_eq]
    generalize c * p.S + s = q
    omega
  rw [WritesBlock, hlen, haddr]
  exact (writesRun_writesAt (blkId_length .video c s (15 * g + i)) _).congr
    fun _ hj => (skeletonByte_video p x c s g hi hj).symm

end Blocks

/-! ### What a skeleton writes in a segment and in a frame -/

/-- The writes of FORMAT_FRAME in one segment (R200). -/
def segmentWrites (p : Profile) (x : Ctx) (c s : Nat) : List (Nat × Byte) :=
  headerWrites p x c s ++ (List.range 2).flatMap (fun j => subcodeWrites p x c s j)
    ++ (List.range 3).flatMap (fun j => auxWrites p x c s j)
    ++ (List.range 9).flatMap (fun g => groupWrites p x c s g)

theorem formatWrites_eq (p : Profile) (x : Ctx) :
    formatWrites p x = (segments p).flatMap fun cs => segmentWrites p x cs.1 cs.2 := rfl

/-- The 150 blocks of a segment (R62, R64). -/
theorem block_cases {b : Nat} (hb : b < 150) :
    b = 0 ∨ (∃ j < 2, b = 1 + j) ∨ (∃ j < 3, b = 3 + j) ∨ (∃ g < 9, b = 6 + 16 * g) ∨
      ∃ g < 9, ∃ i < 15, b = 7 + 16 * g + i := by
  by_cases h0 : b = 0
  · exact .inl h0
  by_cases h3 : b < 3
  · exact .inr (.inl ⟨b - 1, by omega, by omega⟩)
  by_cases h6 : b < 6
  · exact .inr (.inr (.inl ⟨b - 3, by omega, by omega⟩))
  by_cases haudio : (b - 6) % 16 = 0
  · exact .inr (.inr (.inr (.inl ⟨(b - 6) / 16, by omega, by omega⟩)))
  · exact .inr (.inr (.inr (.inr ⟨(b - 6) / 16, by omega, (b - 6) % 16 - 1, by omega, by omega⟩)))

theorem mem_groupWrites {p : Profile} {x : Ctx} {c s g : Nat} {w : Nat × Byte} :
    w ∈ groupWrites p x c s g ↔
      w ∈ writesAt (audioBlk p c s g) (blkId .audio c s g) ++
        writesAt (audioBlk p c s g + 3) (packBytes (if x.naudio > 0 then audKind s g else .nopack) p x) ∨
      ∃ i < 15, w ∈ writesAt (videoBlk p c s (15 * g + i)) (blkId .video c s (15 * g + i)) := by
  simp only [groupWrites, List.mem_append, List.mem_flatMap, List.mem_range, cfg_idLen]

theorem mem_segmentWrites {p : Profile} {x : Ctx} (hpacks : PacksMade p x)
    (c : Nat) {s : Nat} (hs : s < p.S) {w : Nat × Byte} :
    w ∈ segmentWrites p x c s ↔ ∃ b < 150, ∃ j < writtenLen b,
      w = ((c * p.S + s) * 12000 + 80 * b + j, skeletonByte p x c s b j) := by
  have hheader := headerWrites_block hpacks c s w
  have hsub := fun j hj => subcodeWrites_block hpacks c hs (j := j) hj w
  have haux := fun j hj => auxWrites_block hpacks c hs (j := j) hj w
  have haudio := fun g hg => audioWrites_block hpacks c hs (g := g) hg w
  have hvideo := fun g i hi => videoWrites_block (p := p) (x := x) c s (g := g) (i := i) hi w
  simp only [segmentWrites, List.mem_append (t := List.flatMap _ _), List.mem_flatMap, List.mem_range, mem_groupWrites]
  constructor
  · rintro (((hw | ⟨j, hj, hw⟩) | ⟨j, hj, hw⟩) | ⟨g, hg, hw | ⟨i, hi, hw⟩⟩)
    · exact ⟨0, by omega, hheader.1 hw⟩
    · exact ⟨1 + j, by omega, (hsub j hj).1 hw⟩
    · exact ⟨3 + j, by omega, (haux j hj).1 hw⟩
    · exact ⟨6 + 16 * g, by omega, (haudio g hg).1 hw⟩
    · exact ⟨7 + 16 * g + i, by omega, (hvideo g i hi).1 hw⟩
  · rintro ⟨b, hb, hw⟩
    rcases block_cases hb with rfl | ⟨j, hj, rfl⟩ | ⟨j, hj, rfl⟩ | ⟨g, hg, rfl⟩ | ⟨g, hg, i, hi, rfl⟩
    · exact .inl (.inl (.inl (hheader.2 hw)))
    · exact .inl (.inl (.inr ⟨j, hj, (hsub j hj).2 hw⟩))
    · exact .inl (.inr ⟨j, hj, (haux j hj).2 hw⟩)
    · exact .inr ⟨g, hg, .inl ((haudio g hg).2 hw)⟩
    · exact .inr ⟨g, hg, .inr ⟨i, hi, (hvideo g i hi).2 hw⟩⟩

theorem mem_formatWrites {p : Profile} {x : Ctx} (hpacks : PacksMade p x)
    {w : Nat × Byte} :
    w ∈ formatWrites p x ↔ ∃ c s b j, c < p.C ∧ s < p.S ∧ b < 150 ∧ j < writtenLen b ∧
      w = ((c * p.S + s) * 12000 + 80 * b + j, skeletonByte p x c s b j) := by
  simp only [formatWrites_eq, List.mem_flatMap, Prod.exists, mem_segments]
  constructor
  · rintro ⟨c, s, ⟨hc, hs⟩, hw⟩
    obtain ⟨b, hb, j, hj, rfl⟩ := (mem_segmentWrites hpacks c hs).1 hw
    exact ⟨c, s, b, j, hc, hs, hb, hj, rfl⟩
  · rintro ⟨c, s, b, j, hc, hs, hb, hj, rfl⟩
    exact ⟨c, s, ⟨hc, hs⟩, (mem_segmentWrites hpacks c hs).2 ⟨b, hb, j, hj, rfl⟩⟩

/-- An address of a frame names its channel, segment, block and byte (R62 to R64). -/
theorem frameAddr_injective {S c s b j c' s' b' j' : Nat} (hs : s < S) (hs' : s' < S) (hb : b < 150) (hb' : b' < 150)
    (hj : j < 80) (hj' : j' < 80)
    (h : (c * S + s) * 12000 + 80 * b + j = (c' * S + s') * 12000 + 80 * b' + j') :
    c = c' ∧ s = s' ∧ b = b' ∧ j = j' := by
  have hq : c * S + s = c' * S + s' := by omega
  obtain ⟨rfl, rfl⟩ := segmentNumber_injective hs hs' hq
  exact ⟨rfl, rfl, by omega, by omega⟩

theorem bufAt_blankFrame {p : Profile} {a : Nat} (h : a < p.frameSize) : bufAt (blankFrame p) a = 0xFF := by
  simp [bufAt, blankFrame, h]

/-- Every byte of a skeleton whose packs are made (R200): one write or none reaches it. -/
theorem bufAt_formatWrites {p : Profile} (hp : p ∈ cfg.prof) {x : Ctx}
    (hpacks : PacksMade p x) {c s b j : Nat} (hc : c < p.C) (hs : s < p.S)
    (hb : b < 150) (hj : j < 80) :
    bufAt (applyWrites (blankFrame p) (formatWrites p x)) ((c * p.S + s) * 12000 + 80 * b + j) =
      skeletonByte p x c s b j := by
  have hin : (c * p.S + s) * 12000 + 80 * b + j < p.frameSize := by
    rw [Nat.add_assoc]
    exact segmentByte_lt_frameSize hp hc hs (by omega)
  have hhere : ∀ w ∈ formatWrites p x, w.1 = (c * p.S + s) * 12000 + 80 * b + j →
      j < writtenLen b ∧ w.2 = skeletonByte p x c s b j := by
    intro w hw haddr
    obtain ⟨c', s', b', j', -, hs', hb', hj', rfl⟩ := (mem_formatWrites hpacks).1 hw
    obtain ⟨rfl, rfl, rfl, rfl⟩ :=
      frameAddr_injective hs' hs hb' hb (hj'.trans (writtenLen_lt_block b')) hj haddr
    exact ⟨hj', rfl⟩
  by_cases hwritten : j < writtenLen b
  · have hmem := (mem_formatWrites hpacks).2 ⟨c, s, b, j, hc, hs, hb, hwritten, rfl⟩
    exact bufAt_applyWrites_of_forall_mem (List.mem_map_of_mem (f := Prod.fst) hmem)
      (fun w hw ha => (hhere w hw ha).2) (by rwa [blankFrame_size])
  · rw [bufAt_applyWrites_of_not_mem, bufAt_blankFrame hin, skeletonByte_fill p x c s (Nat.le_of_not_lt hwritten)]
    intro hmem
    obtain ⟨w, hw, haddr⟩ := List.mem_map.1 hmem
    exact hwritten (hhere w hw haddr).1

/-! ### Contexts that FORMAT_FRAME refuses (R105, R170, R178) -/

/-- The sample counts of the profiles are those of 48 kHz: over the least count of another frequency they lie further
than the 6 bits of `afsize` reach. -/
theorem delta_ge_of_afreq : ∀ p ∈ cfg.prof, ∀ f, 0 < f → f ≤ 2 → ∀ n, 64 ≤ delta p n f := by
  have hall : ∀ p ∈ cfg.prof, ∀ f ≤ 2, 0 < f → ∀ m < 5, 64 ≤ p.dist.getD m 0 - p.mins.getD f 0 := by decide
  intro p hp f hpos hle n
  exact hall p hp f hle hpos (n % 5) (Nat.mod_lt n (by decide))

theorem makePack_audioSource_not_ok {p : Profile} (hp : p ∈ cfg.prof) {x : Ctx} (hpos : x.afreq ≠ 0)
    (hle : x.afreq ≤ 2) : (makePack .audioSource p x).isOk = false := by
  cases hm : makePack .audioSource p x with
  | error k => rfl
  | ok bs =>
    have hfit := (encodePack_ok hm).1
    have hdelta : delta p x.n x.afreq < 64 := by
      simp only [fieldsFit, widthsOf, layout, fieldWidths, assemblerValues, audioSourceList, audioSourceValues,
        Bool.and_eq_true, decide_eq_true_eq] at hfit
      exact hfit.2.1
    exact absurd (delta_ge_of_afreq p hp x.afreq (Nat.pos_of_ne_zero hpos) hle x.n) (by omega)

/-- With a stream at another frequency than 48 kHz the audio source pack does not fit. -/
theorem formatFrame_refused {p : Profile} (hp : p ∈ cfg.prof) {x : Ctx} (hn : x.naudio ≠ 0) (hpos : x.afreq ≠ 0)
    (hle : x.afreq ≤ 2) : formatFrame p x = .error .fieldRange := by
  rcases formatFrame_cases p x with ⟨-, hall, -⟩ | ⟨-, herr⟩
  · have hS : ∀ p ∈ cfg.prof, 0 < p.S := by decide
    have hmem := audioKind_mem_kindsWritten x (hS p hp) (show 3 < 9 by decide)
    rw [if_pos (Nat.pos_of_ne_zero hn)] at hmem
    have hok : (makePack .audioSource p x).isOk = true := hall _ hmem
    rw [makePack_audioSource_not_ok hp hpos hle] at hok
    cases hok
  · exact herr

theorem ctxInRange_iff (x : Ctx) :
    ctxInRange x = true ↔
      x.naudio ≤ 2 ∧ x.afreq ≤ 2 ∧ x.aquant ≤ 1 ∧ x.aspect ≤ 7 ∧ dateInRange x.date = true := by
  simp only [ctxInRange, Bool.and_eq_true, decide_eq_true_eq, and_assoc]

theorem ctxRefused_iff (p : Profile) (x : Ctx) :
    (!ctxInRange x || decide (x.naudio > p.C)) = true ↔ ¬ (ctxInRange x = true ∧ x.naudio ≤ p.C) := by
  rw [Bool.or_eq_true, Bool.not_eq_true', decide_eq_true_eq, ← Bool.not_eq_true, not_and_or, Nat.not_le]

theorem formatFrameReply_eq (o : Operands) :
    formatFrameReply o = withProfile o fun p =>
      if lenOf o ≠ 18 then .error .lengthMismatch
      else if (!ctxInRange (ctxOf o.pay) || decide ((ctxOf o.pay).naudio > p.C)) = true then .error .fieldRange
      else (formatFrame p (ctxOf o.pay)).map fun F => ⟨0, F.toList⟩ := by
  unfold formatFrameReply withProfile
  cases profileAt o.a with
  | none => rfl
  | some p => cases hf : formatFrame p (ctxOf o.pay) <;> simp only [Option.elim_some, hf] <;> rfl

/-- The answer to a context record of 18 bytes. -/
theorem formatFrameReply_of_length {r : Nat} {p : Profile} (hp : cfg.prof[r]? = some p) {bs : List Byte}
    (hlen : bs.length = 18) :
    formatFrameReply ⟨byte r, 0, bs⟩ =
      if ctxInRange (ctxOf bs) = true ∧ (ctxOf bs).naudio ≤ p.C then
        (formatFrame p (ctxOf bs)).map fun F => ⟨0, F.toList⟩
      else .error .fieldRange := by
  rw [formatFrameReply_eq, withProfile_of_prof hp, lenOf, if_neg (not_not.2 hlen)]
  simp only [ctxRefused_iff, ite_not]

end Sys2Proof.Machine

/-! ### The statement -/

namespace Sys2Proof.Proofs

open Sys2Proof.Machine Sys2Proof.Safety

/-- Settles O26: in range the packs are made and each block is written at its place; out of range, or where the audio
source pack does not fit, FieldRange. -/
theorem skeletonLayout : Obligations.SkeletonLayout := by
  intro s r p bs hr
  have hp : p ∈ cfg.prof := List.mem_of_getElem? hr
  refine ⟨fun hlen hrange hC hfreq => ?_, fun hlen hout => ?_, fun hlen => ?_, fun o ho => ?_⟩
  · have hctx := (ctxInRange_iff (ctxOf bs)).2 hrange
    obtain ⟨-, -, hquant, haspect, hdate⟩ := hrange
    obtain ⟨F, hF⟩ := formatFrame_ok hp hdate haspect (hquant.trans (by decide)) hfreq
    rcases formatFrame_cases p (ctxOf bs) with ⟨hpacks, -, hok⟩ | ⟨-, herr⟩
    · have hreply : formatFrameReply ⟨byte r, 0, bs⟩ =
          .ok ⟨0, (applyWrites (blankFrame p) (formatWrites p (ctxOf bs))).toList⟩ := by
        rw [formatFrameReply_of_length hr hlen, if_pos ⟨hctx, hC⟩, hok]
        rfl
      refine ⟨_, pureCommand_eq_okState.2 hreply, ?_, fun c sg b j hc hs hb hj => ?_⟩
      · rw [Array.length_toList, applyWrites_size, blankFrame_size]
      · rw [payAt_toList]
        exact bufAt_formatWrites hp hpacks hc hs hb hj
    · rw [herr] at hF
      cases hF
  · show pureCommand (formatFrameReply ⟨byte r, 0, bs⟩) s = _
    have hreply : formatFrameReply ⟨byte r, 0, bs⟩ = .error .fieldRange := by
      rw [formatFrameReply_of_length hr hlen]
      split
      · next hin =>
        obtain ⟨hctx, hC⟩ := hin
        have hrange := (ctxInRange_iff _).1 hctx
        obtain ⟨hn, hfreq⟩ : (ctxOf bs).naudio ≠ 0 ∧ (ctxOf bs).afreq ≠ 0 :=
          not_or.1 fun h => hout ⟨hrange, hC, h⟩
        rw [formatFrame_refused hp hn hfreq hrange.2.1]
        rfl
      · rfl
    rw [hreply]
    rfl
  · show pureCommand (formatFrameReply ⟨byte r, 0, bs⟩) s = _
    rw [formatFrameReply_eq, withProfile_of_prof hr]
    exact congrArg (pureCommand · s) (if_pos hlen)
  · show pureCommand (formatFrameReply o) s = _
    rw [formatFrameReply_eq, withProfile_refused ho]
    rfl

end Sys2Proof.Proofs
end

section
/-! PROOFS. The codec read backwards: what the pack, id, response and command decoders make of the bytes their encoders
write, and the statements about encodings, packs and endings. -/

namespace Sys2Proof.Machine

open Sys2Proof.Safety

/-! ### Layouts with any constant bits (R109, R110) -/

/-- A layout with the values of its constant bits replaced, in order, by those of a list. -/
def recast : List Piece → List Nat → List Piece
  | .const w _ :: l, c :: cs => .const w c :: recast l cs
  | .field w :: l, cs => .field w :: recast l cs
  | l, _ => l

/-- Whether the values of the constant bits fit their widths. -/
def constsFit : List Piece → Prop
  | [] => True
  | .const w v :: l => v < 2 ^ w ∧ constsFit l
  | .field _ :: l => constsFit l

/-- The decoder does not look at constant bits (R110). -/
theorem decodeBits_recast (l : List Piece) (cs : List Nat) (x : Nat) :
    layoutWidth (recast l cs) = layoutWidth l ∧ decodeBits (recast l cs) x = decodeBits l x := by
  induction l generalizing cs with
  | nil => cases cs <;> exact ⟨rfl, rfl⟩
  | cons q l ih =>
    cases q with
    | field w => simp [recast, layoutWidth, decodeBits, Piece.width, ih cs]
    | const w v =>
      cases cs with
      | nil => exact ⟨rfl, rfl⟩
      | cons c cs => simp [recast, layoutWidth, decodeBits, Piece.width, ih cs]

theorem fieldWidths_recast (l : List Piece) (cs : List Nat) : fieldWidths (recast l cs) = fieldWidths l := by
  induction l generalizing cs with
  | nil => cases cs <;> rfl
  | cons q l ih =>
    cases q with
    | field w => exact congrArg (w :: ·) (ih cs)
    | const w v =>
      cases cs with
      | nil => rfl
      | cons c cs => exact ih cs

/-- A value of `w` bits behind `acc`, taken off again. -/
theorem mul_two_pow_add_div_mod {w v : Nat} (hv : v < 2 ^ w) (acc : Nat) :
    (acc * 2 ^ w + v) / 2 ^ w = acc ∧ (acc * 2 ^ w + v) % 2 ^ w = v := by
  rw [Nat.mul_comm, Nat.mul_add_div (Nat.two_pow_pos w), Nat.mul_add_mod, Nat.div_eq_of_lt hv, Nat.mod_eq_of_lt hv]
  exact ⟨rfl, rfl⟩

/-- What is written after `acc` stands below it and reads back as the fields (R160). -/
theorem decodeBits_encodeBits {l : List Piece} {vs : List Nat} (hv : fieldsFit (fieldWidths l) vs = true)
    (hc : constsFit l) (acc : Nat) :
    encodeBits l vs acc / 2 ^ layoutWidth l = acc ∧ decodeBits l (encodeBits l vs acc) = vs := by
  induction l generalizing vs acc with
  | nil =>
    cases vs with
    | nil => exact ⟨Nat.div_one acc, rfl⟩
    | cons v vs => cases hv
  | cons q l ih =>
    have hpow : 2 ^ layoutWidth (q :: l) = 2 ^ layoutWidth l * 2 ^ q.width := by
      rw [layoutWidth, Nat.add_comm, Nat.pow_add]
    rw [hpow, ← Nat.div_div_eq_div_mul]
    cases q with
    | const w c =>
      obtain ⟨hcw, hcl⟩ := hc
      obtain ⟨habove, hfields⟩ := ih hv hcl (acc * 2 ^ w + c)
      exact ⟨by rw [encodeBits, habove]; exact (mul_two_pow_add_div_mod hcw acc).1, hfields⟩
    | field w =>
      cases vs with
      | nil => cases hv
      | cons v vs =>
        simp only [fieldWidths, fieldsFit, Bool.and_eq_true, decide_eq_true_eq] at hv
        obtain ⟨hvw, hvl⟩ := hv
        obtain ⟨habove, hfields⟩ := ih hvl hc (acc * 2 ^ w + v)
        obtain ⟨hdiv, hmod⟩ := mul_two_pow_add_div_mod hvw acc
        refine ⟨by rw [encodeBits, habove]; exact hdiv, ?_⟩
        rw [encodeBits, decodeBits, habove, hfields, hmod]

theorem decodeBits_length (l : List Piece) (x : Nat) : (decodeBits l x).length = (fieldWidths l).length := by
  induction l with
  | nil => rfl
  | cons q l ih =>
    cases q with
    | field w => exact congrArg (· + 1) ih
    | const w v => exact ih

/-- Every layout fills the 32 bits of PC1 to PC4, and its constant bits fit (R109). -/
theorem layout_shape (k : PackKind) : layoutWidth (layout k) = 32 ∧ constsFit (layout k) := by
  cases k <;> simp [layout, layoutWidth, Piece.width, constsFit]

/-! ### Packs (R112, R160) -/

/-- A selector byte names one kind, and only the header pack's has the free bit `dsf` (R112). -/
theorem kindOfSelector_selectorOf :
    ∀ k dsf, (dsf = true → k = .hdr) → kindOfSelector (selectorOf k dsf) = some (k, dsf) := by
  intro k dsf h
  cases dsf with
  | false => cases k <;> rfl
  | true =>
    obtain rfl := h rfl
    rfl

theorem selectorOf_hdr (dsf : Bool) : selectorOf .hdr dsf = if dsf then 0xBF else 0x3F := by
  cases dsf <;> rfl

/-- The four bytes that hold field values and constant bits in a kind's layout. -/
def IsContent (k : PackKind) (vs cs : List Nat) (bytes : List Byte) : Prop :=
  bytes.length = 4 ∧ constsFit (recast (layout k) cs) ∧ beNat bytes = encodeBits (recast (layout k) cs) vs 0

/-- A pack decodes to its fields, whatever its constant bits are (R110). -/
theorem decodePack_of_isContent {k : PackKind} {vs cs : List Nat} {bytes : List Byte}
    (h : IsContent k vs cs bytes) (hfit : packFits k vs = true) {sel : Byte} {dsf : Bool}
    (hsel : kindOfSelector sel = some (k, dsf)) : decodePack (sel :: bytes) = some (k, dsf, vs) := by
  obtain ⟨hlen, hconst, hbits⟩ := h
  have hslice : slice (sel :: bytes) 1 4 = bytes := List.take_of_length_le hlen.le
  have hvs : decodeBits (layout k) (beNat bytes) = vs := by
    rw [hbits, ← (decodeBits_recast (layout k) cs _).2]
    exact (decodeBits_encodeBits (by rwa [fieldWidths_recast]) hconst 0).2
  rw [decodePack, show kindOfSelector (payAt (sel :: bytes) 0) = some (k, dsf) from hsel]
  dsimp only
  rw [cfg_packLen, hslice, hvs]

theorem decodePackInstr_of_isContent {k : PackKind} {vs cs : List Nat} {bytes : List Byte}
    (h : IsContent k vs cs bytes) (hfit : packFits k vs = true) {sel : Byte} {dsf : Bool}
    (hsel : kindOfSelector sel = some (k, dsf)) : decodePackInstr (sel :: bytes) = .ok (packInstr k dsf vs) := by
  rw [decodePackInstr, if_neg (by rw [List.length_cons, h.1]; decide), decodePack_of_isContent h hfit hsel]

/-- A pack is encoded to its selector and the bytes that hold its fields and the constant bits of the layout (R109). -/
theorem packEncoding_of_isContent {k : PackKind} {vs cs : List Nat} {bytes : List Byte}
    (h : IsContent k vs cs bytes) (hcs : recast (layout k) cs = layout k) (hfit : packFits k vs = true) (dsf : Bool) :
    packEncoding k dsf vs = selectorOf k dsf :: bytes := by
  obtain ⟨hlen, -, hbits⟩ := h
  rw [packEncoding, encodePack_fits hfit, ← hcs, ← hbits, ← hlen, beBytes_beNat]

/-- The bytes of an encoded pack hold its fields. -/
theorem isContent_beBytes {k : PackKind} {vs : List Nat} (hfit : packFits k vs = true) :
    IsContent k vs [] (beBytes 4 (encodeBits (layout k) vs 0)) := by
  obtain ⟨hwidth, hconst⟩ := layout_shape k
  have hnil : recast (layout k) [] = layout k := by cases k <;> rfl
  have hlt : encodeBits (layout k) vs 0 < 256 ^ 4 := by
    have habove := (decodeBits_encodeBits hfit hconst 0).1
    rw [hwidth] at habove
    exact (Nat.div_eq_zero_iff_lt (by decide)).1 habove
  rw [IsContent, hnil]
  exact ⟨beBytes_length _ _, hconst, by rw [beNat_beBytes_mod, Nat.mod_eq_of_lt hlt]⟩

theorem packEncoding_of_fits {k : PackKind} {vs : List Nat} (hfit : packFits k vs = true) (dsf : Bool) :
    packEncoding k dsf vs = selectorOf k dsf :: beBytes 4 (encodeBits (layout k) vs 0) := by
  rw [packEncoding, encodePack_fits hfit]

/-- Encoding fields that fit and decoding the five bytes gives them back (R160). -/
theorem decodePackInstr_packEncoding {k : PackKind} {dsf : Bool} {vs : List Nat} (hdsf : dsf = true → k = .hdr)
    (hfit : packFits k vs = true) : decodePackInstr (packEncoding k dsf vs) = .ok (packInstr k dsf vs) := by
  rw [packEncoding_of_fits hfit]
  exact decodePackInstr_of_isContent (isContent_beBytes hfit) hfit (kindOfSelector_selectorOf k dsf hdsf)

/-- The answer to an encoded pack: its selector, and its fields (R162). -/
theorem decodeReply_packEncoding {k : PackKind} {dsf : Bool} {vs : List Nat} (hdsf : dsf = true → k = .hdr)
    (hfit : packFits k vs = true) :
    decodeReply (packEncoding k dsf vs) = .ok ⟨selectorOf k dsf, vs.map byte⟩ := by
  rw [packEncoding_of_fits hfit, decodeReply, decodePack_of_isContent (isContent_beBytes hfit) hfit
    (kindOfSelector_selectorOf k dsf hdsf)]
  rfl

/-- As many values as the kind has fields are encoded exactly when they fit (R111, R161). -/
theorem encodePack_of_length {k : PackKind} {vs : List Nat} (hlen : vs.length = (widthsOf k).length) (dsf : Bool) :
    encodePack k dsf vs =
      if packFits k vs = true then .ok (packEncoding k dsf vs) else .error .fieldRange := by
  rw [encodePack, if_neg (not_not.2 hlen)]
  refine if_ctx_congr Iff.rfl (fun hfit => ?_) fun _ => rfl
  rw [packEncoding_of_fits hfit]
  rfl

/-- A pack presented by itself: its fields when they fit, else FieldRange. -/
theorem presentPack_eq (k : PackKind) (dsf : Bool) (vs : List Nat) (hdsf : dsf = true → k = .hdr)
    (hlen : vs.length = (widthsOf k).length) (s : State) :
    presentPack k dsf vs s = .next (if packFits k vs then okState s (selectorOf k dsf) (vs.map byte)
      else endedState s .refused 0x13) := by
  rw [presentPack, encodePack_of_length hlen]
  by_cases hfit : packFits k vs = true
  · rw [if_pos hfit, if_pos hfit]
    exact congrArg (pureCommand · s) (decodeReply_packEncoding hdsf hfit)
  · rw [if_neg hfit, if_neg hfit]
    rfl

theorem decodePack_length {bs : List Byte} {k : PackKind} {dsf : Bool} {vs : List Nat}
    (h : decodePack bs = some (k, dsf, vs)) : vs.length = (widthsOf k).length := by
  unfold decodePack at h
  split at h
  · cases h
    exact decodeBits_length _ _
  · cases h

/-! ### The bytes of each kind (R165 to R177) -/

theorem toNat_append_eq {m n : Nat} (x : BitVec m) (y : BitVec n) :
    (x ++ y).toNat = x.toNat * 2 ^ n + y.toNat := by
  rw [BitVec.toNat_append, ← Nat.shiftLeft_add_eq_or_of_lt y.isLt, Nat.shiftLeft_eq]

/-- Four bytes as one number, the first highest (R109). -/
theorem beNat_four (b1 b2 b3 b4 : Byte) :
    beNat [b1, b2, b3, b4] = ((b1.toNat * 256 + b2.toNat) * 256 + b3.toNat) * 256 + b4.toNat := by
  simp only [beNat, List.reverse_cons, List.reverse_nil, List.nil_append, List.cons_append, leNat]
  omega

theorem zipWith_mod_of_fieldsFit {ws vs : List Nat} (h : fieldsFit ws vs = true) :
    List.zipWith (fun w v => v % 2 ^ w) ws vs = vs := by
  induction ws generalizing vs with
  | nil =>
    cases vs with
    | nil => rfl
    | cons v vs => cases h
  | cons w ws ih =>
    cases vs with
    | nil => cases h
    | cons v vs =>
      simp only [fieldsFit, Bool.and_eq_true, decide_eq_true_eq] at h
      obtain ⟨hvw, hvl⟩ := h
      rw [List.zipWith_cons_cons, ih hvl, Nat.mod_eq_of_lt hvw]

/-- Fields that fit are the low bits of themselves, which is what stands in the bytes. -/
theorem isContent_of_mod {k : PackKind} {vs cs : List Nat} {bytes : List Byte} (hfit : packFits k vs = true)
    (hlen : bytes.length = 4) (hconst : constsFit (recast (layout k) cs))
    (hbits : beNat bytes =
      encodeBits (recast (layout k) cs) (List.zipWith (fun w v => v % 2 ^ w) (widthsOf k) vs) 0) :
    IsContent k vs cs bytes :=
  ⟨hlen, hconst, by rw [hbits, zipWith_mod_of_fieldsFit hfit]⟩

theorem isContent_hdr {f : HdrFields} (h : packFits .hdr (hdrList f) = true) (c1 : BitVec 5) (c2 c3 c4 : BitVec 4) :
    IsContent .hdr (hdrList f) [c1.toNat, c2.toNat, c3.toNat, c4.toNat]
      [c1 ++ BitVec.ofNat 3 f.apt, BitVec.ofNat 1 f.tf1 ++ c2 ++ BitVec.ofNat 3 f.ap1,
        BitVec.ofNat 1 f.tf2 ++ c3 ++ BitVec.ofNat 3 f.ap2, BitVec.ofNat 1 f.tf3 ++ c4 ++ BitVec.ofNat 3 f.ap3] :=
  isContent_of_mod h rfl ⟨c1.isLt, c2.isLt, c3.isLt, c4.isLt, trivial⟩ <| by
    simp only [beNat_four, toNat_append_eq, BitVec.toNat_ofNat, widthsOf, layout, fieldWidths, hdrList,
      List.zipWith_cons_cons, List.zipWith_nil_left, recast, encodeBits]
    omega

theorem isContent_tc {f : TcFields} (h : packFits .tc (tcList f) = true) :
    IsContent .tc (tcList f) []
      [BitVec.ofNat 1 f.cf ++ BitVec.ofNat 1 f.df ++ BitVec.ofNat 2 f.ft ++ BitVec.ofNat 4 f.fu,
        BitVec.ofNat 1 f.pc ++ BitVec.ofNat 3 f.st ++ BitVec.ofNat 4 f.su,
        BitVec.ofNat 1 f.bgf0 ++ BitVec.ofNat 3 f.mt ++ BitVec.ofNat 4 f.mu,
        BitVec.ofNat 1 f.bgf2 ++ BitVec.ofNat 1 f.bgf1 ++ BitVec.ofNat 2 f.ht ++ BitVec.ofNat 4 f.hu] :=
  isContent_of_mod h rfl trivial <| by
    simp only [beNat_four, toNat_append_eq, BitVec.toNat_ofNat, widthsOf, layout, fieldWidths, tcList,
      List.zipWith_cons_cons, List.zipWith_nil_left, recast, encodeBits]
    omega

theorem isContent_audioSource {f : AudioSourceFields} (h : packFits .audioSource (audioSourceList f) = true)
    (c1 c3 : BitVec 1) :
    IsContent .audioSource (audioSourceList f) [c1.toNat, c3.toNat]
      [BitVec.ofNat 1 f.lf ++ c1 ++ BitVec.ofNat 6 f.afsize,
        BitVec.ofNat 1 f.sm ++ BitVec.ofNat 2 f.chn ++ BitVec.ofNat 1 f.pa ++ BitVec.ofNat 4 f.amode,
        c3 ++ BitVec.ofNat 1 f.ml ++ BitVec.ofNat 1 f.f5060 ++ BitVec.ofNat 5 f.stype,
        BitVec.ofNat 1 f.ef ++ BitVec.ofNat 1 f.tc ++ BitVec.ofNat 3 f.smp ++ BitVec.ofNat 3 f.qu] :=
  isContent_of_mod h rfl ⟨c1.isLt, c3.isLt, trivial⟩ <| by
    simp only [beNat_four, toNat_append_eq, BitVec.toNat_ofNat, widthsOf, layout, fieldWidths, audioSourceList,
      List.zipWith_cons_cons, List.zipWith_nil_left, recast, encodeBits]
    omega

theorem isContent_audioControl {f : AudioControlFields} (h : packFits .audioControl (audioControlList f) = true)
    (c4 : BitVec 1) :
    IsContent .audioControl (audioControlList f) [c4.toNat]
      [BitVec.ofNat 2 f.cgms ++ BitVec.ofNat 2 f.isr ++ BitVec.ofNat 2 f.cmp ++ BitVec.ofNat 2 f.ss,
        BitVec.ofNat 1 f.recst ++ BitVec.ofNat 1 f.recend ++ BitVec.ofNat 3 f.recmode ++ BitVec.ofNat 3 f.insch,
        BitVec.ofNat 1 f.drf ++ BitVec.ofNat 7 f.speed, c4 ++ BitVec.ofNat 7 f.genre] :=
  isContent_of_mod h rfl ⟨c4.isLt, trivial⟩ <| by
    simp only [beNat_four, toNat_append_eq, BitVec.toNat_ofNat, widthsOf, layout, fieldWidths, audioControlList,
      List.zipWith_cons_cons, List.zipWith_nil_left, recast, encodeBits]
    omega

theorem isContent_recDate {f : RecDateFields} (h : packFits .audioRecDate (recDateList f) = true) (c2 : BitVec 2) :
    IsContent .audioRecDate (recDateList f) [c2.toNat]
      [BitVec.ofNat 8 f.tz, c2 ++ BitVec.ofNat 2 f.dt ++ BitVec.ofNat 4 f.du,
        BitVec.ofNat 3 f.week ++ BitVec.ofNat 1 f.mt ++ BitVec.ofNat 4 f.mu,
        BitVec.ofNat 4 f.yt ++ BitVec.ofNat 4 f.yu] :=
  isContent_of_mod h rfl ⟨c2.isLt, trivial⟩ <| by
    simp only [beNat_four, toNat_append_eq, BitVec.toNat_ofNat, widthsOf, layout, fieldWidths, recDateList,
      List.zipWith_cons_cons, List.zipWith_nil_left, recast, encodeBits]
    omega

theorem isContent_recTime {f : RecTimeFields} (h : packFits .audioRecTime (recTimeList f) = true)
    (c1 : BitVec 2) (c2 c3 : BitVec 1) (c4 : BitVec 2) :
    IsContent .audioRecTime (recTimeList f) [c1.toNat, c2.toNat, c3.toNat, c4.toNat]
      [c1 ++ BitVec.ofNat 2 f.ft ++ BitVec.ofNat 4 f.fu, c2 ++ BitVec.ofNat 3 f.st ++ BitVec.ofNat 4 f.su,
        c3 ++ BitVec.ofNat 3 f.mt ++ BitVec.ofNat 4 f.mu, c4 ++ BitVec.ofNat 2 f.ht ++ BitVec.ofNat 4 f.hu] :=
  isContent_of_mod h rfl ⟨c1.isLt, c2.isLt, c3.isLt, c4.isLt, trivial⟩ <| by
    simp only [beNat_four, toNat_append_eq, BitVec.toNat_ofNat, widthsOf, layout, fieldWidths, recTimeList,
      List.zipWith_cons_cons, List.zipWith_nil_left, recast, encodeBits]
    omega

theorem isContent_videoSource {f : VideoSourceFields} (h : packFits .videoSource (videoSourceList f) = true)
    (c2 : BitVec 4) (c3 : BitVec 2) :
    IsContent .videoSource (videoSourceList f) [c2.toNat, c3.toNat]
      [BitVec.ofNat 8 f.tvch, BitVec.ofNat 1 f.bw ++ BitVec.ofNat 1 f.en ++ BitVec.ofNat 2 f.clf ++ c2,
        c3 ++ BitVec.ofNat 1 f.f5060 ++ BitVec.ofNat 5 f.stype, BitVec.ofNat 8 f.visc] :=
  isContent_of_mod h rfl ⟨c2.isLt, c3.isLt, trivial⟩ <| by
    simp only [beNat_four, toNat_append_eq, BitVec.toNat_ofNat, widthsOf, layout, fieldWidths, videoSourceList,
      List.zipWith_cons_cons, List.zipWith_nil_left, recast, encodeBits]
    omega

theorem isContent_videoControl {f : VideoControlFields} (h : packFits .videoControl (videoControlList f) = true)
    (c1 : BitVec 6) (c2 : BitVec 5) (c3 : BitVec 4) (c4 : BitVec 8) :
    IsContent .videoControl (videoControlList f) [c1.toNat, c2.toNat, c3.toNat, c4.toNat]
      [BitVec.ofNat 2 f.cgms ++ c1, c2 ++ BitVec.ofNat 3 f.aspect,
        BitVec.ofNat 1 f.ff ++ BitVec.ofNat 1 f.fs ++ BitVec.ofNat 1 f.fc ++ BitVec.ofNat 1 f.il ++ c3, c4] :=
  isContent_of_mod h rfl ⟨c1.isLt, c2.isLt, c3.isLt, c4.isLt, trivial⟩ <| by
    simp only [beNat_four, toNat_append_eq, BitVec.toNat_ofNat, widthsOf, layout, fieldWidths, videoControlList,
      List.zipWith_cons_cons, List.zipWith_nil_left, recast, encodeBits]
    omega

theorem isContent_nopack (c1 c2 c3 c4 : Byte) :
    IsContent .nopack [] [c1.toNat, c2.toNat, c3.toNat, c4.toNat] [c1, c2, c3, c4] := by
  refine ⟨rfl, ⟨c1.isLt, c2.isLt, c3.isLt, c4.isLt, trivial⟩, ?_⟩
  simp only [beNat_four, layout, recast, encodeBits]
  omega

/-! ### Commands (R100, R101) -/

/-- A packet of a command decodes to the command its opcode names. -/
theorem decodeAs_packet {opc : Nat} {o : Operands} {i : Instr} (hopc : commandOf (byte opc) o = some i)
    (hlen : lengthFits o.pay = true) : decodeAs .cmd (packet opc o) = .ok i := by
  refine (decodeAs_commandPacket (byte opc) o.a o.b (of_decide_eq_true hlen)).trans ?_
  rw [hopc]
  rfl

/-! ### Ids (R106, R108) -/

/-- Byte 1 of a block id is segment, channel and three ones (R106). -/
theorem byte_seg_chan : ∀ (seg : BitVec 4) (chan : BitVec 1),
    byte (seg.toNat * 16 + chan.toNat * 8 + 7) = seg ++ chan ++ 0b111#3 := by decide

theorem blkIdEncoding_eq (t : Section) (f : BlkIdFields) :
    blkIdEncoding t f = [sectByte t, f.seg ++ f.chan ++ 0b111#3, f.num] := by
  show [sectByte t, byte (f.seg.toNat * 16 + f.chan.toNat * 8 + 7), byte f.num.toNat] = _
  rw [byte_seg_chan, byte_byte_toNat]

theorem extract_seg_chan : ∀ (seg : BitVec 4) (chan : BitVec 1),
    let b : Byte := seg ++ chan ++ 0b111#3
    b.extractLsb' 4 4 = seg ∧ b.extractLsb' 3 1 = chan ∧ b.extractLsb' 0 3 = 7 := by decide

theorem blkIdFits_iff (t : Section) (f : BlkIdFields) :
    blkIdFits t f = true ↔ f.seg.toNat ≤ 11 ∧ f.num.toNat ≤ sectCount t - 1 := by
  have hcount : 0 < sectCount t := by cases t <;> decide
  simp only [blkIdFits, Bool.and_eq_true, decide_eq_true_eq]
  omega

/-- The five section bytes differ (R106). -/
theorem find_sectByte (t : Section) : allSections.find? (fun u => cfg.sect u == sectByte t) = some t := by
  cases t <;> rfl

/-- A block id that fits decodes to its section and its fields. -/
theorem decodeBlkId_blkIdEncoding {t : Section} {f : BlkIdFields} (hfit : blkIdFits t f = true) :
    decodeBlkId (blkIdEncoding t f) = .ok (blkIdInstr t f) := by
  obtain ⟨hseg, hchan, hones⟩ := extract_seg_chan f.seg f.chan
  rw [blkIdEncoding_eq]
  unfold decodeBlkId
  simp only [payAt, List.getD_cons_zero, List.getD_cons_succ, hseg, hchan, hones, find_sectByte, hfit]
  rfl

/-- The bytes of a sub-record id, bit by bit (R108). -/
theorem subIdBytes_eq : ∀ (fr : Bool) (syb : BitVec 4),
    subIdBytes fr syb.toNat = [(if fr then 1#1 else 0#1) ++ 0b000#3 ++ 0b1111#4, 0b1111#4 ++ syb, 0xFF] := by decide

/-- A sub-record id that fits decodes to its fields. -/
theorem decodeSubId_subIdBytes : ∀ (fr : Bool) (syb : BitVec 4), subIdFits ⟨fr, syb⟩ = true →
    decodeSubId (subIdBytes fr syb.toNat) = .ok (.subId ⟨fr, syb⟩) := by decide

/-! ### Responses and codes (R100, R102, R320) -/

/-- The parts of a response packet: class, code, result, the zero byte, `RLEN` and the result payload (R100). -/
theorem responseBytes_parts (r : Response) :
    payAt (responseBytes r) 0 = classByte r.cls ∧ payAt (responseBytes r) 1 = r.code ∧
      payAt (responseBytes r) 2 = r.ra ∧ payAt (responseBytes r) 3 = 0 ∧
      slice (responseBytes r) 4 4 = leBytes 4 r.rpay.length ∧ (responseBytes r).drop 8 = r.rpay ∧
      (responseBytes r).length = 8 + r.rpay.length := by
  refine ⟨rfl, rfl, rfl, rfl, rfl, rfl, ?_⟩
  simp only [responseBytes, List.length_append, List.length_cons, List.length_nil, leBytes_length]

/-- A response packet decodes to the row its class, code and result name. -/
theorem decodeAs_responseBytes {r : Response} {i : Instr} (hlen : lengthFits r.rpay = true)
    (hrow : responseInstr (classByte r.cls) r.code r.ra r.rpay = some i) :
    decodeAs .resp (responseBytes r) = .ok i := by
  obtain ⟨hcls, hcode, hra, hzero, hrlen, hdrop, hlength⟩ := responseBytes_parts r
  have hfield : ¬ ((responseBytes r).length < 8 ∨ payAt (responseBytes r) 3 ≠ 0 ∨
      leNat (slice (responseBytes r) 4 4) ≠ (responseBytes r).length - 8) := by
    have hfits : r.rpay.length < 2 ^ 32 := of_decide_eq_true hlen
    rw [hrlen, hzero, hlength, leNat_leBytes (k := 4) hfits]
    simp
  rw [decodeAs, decodeResponse, if_neg hfield, hcls, hcode, hra, hdrop, hrow]

/-- A code names its condition, and the conditions have different codes (R320). -/
theorem kindOfCode_kindCode (k : Kind) : kindOfCode (kindCode k) = some k := by cases k <;> rfl

theorem responseInstr_refused {k : Kind} (h : kindClass k = .refused) :
    responseInstr 3 (kindCode k) 0 [] = some (.classRefused k) := by
  simp [responseInstr, kindOfCode_kindCode, h]

theorem responseInstr_error {k : Kind} (h : kindClass k = .error) :
    responseInstr 4 (kindCode k) 0 [] = some (.classError k) := by
  simp [responseInstr, kindOfCode_kindCode, h]

/-! ### Instructions of packs -/

/-- A pack instruction is encoded as the pack it holds. -/
theorem encode_of_packOf {i : Instr} {k : PackKind} {dsf : Bool} {vs : List Nat} (h : packOf i = some (k, dsf, vs)) :
    encode i = packEncoding k dsf vs := by
  cases i with
  | kHdr | kTc | kAs | kAc | kArd | kArt | kVs | kVc | kVrd | kVrt | nopack =>
    cases h
    rfl
  | _ => cases h

theorem map_getD_range (vs : List Nat) : (List.range vs.length).map (vs.getD · 0) = vs := by
  refine List.ext_getElem (by simp) fun i _ hi => ?_
  rw [List.getElem_map, List.getElem_range, List.getD_eq_getElem]

/-- As many values as the kind has fields make the kind's instruction, and stand in it (R160). -/
theorem packOf_packInstr {k : PackKind} {vs : List Nat} (hlen : vs.length = (widthsOf k).length) (dsf : Bool) :
    packOf (packInstr k dsf vs) = some (k, decide (k = .hdr) && dsf, vs) := by
  have hread : (List.range (widthsOf k).length).map (vs.getD · 0) = vs := hlen ▸ map_getD_range vs
  conv => rhs; rw [← hread]
  cases k <;> rfl

/-! ### PACK_ENC and PACK_DEC (R161, R162) -/

/-- The bytes that are no selector of R112. -/
theorem kindOfSelector_eq_none_iff : ∀ a : Byte, kindOfSelector a = none ↔
    a.toNat ∉ [0x3F, 0xBF, 0x13, 0x50, 0x51, 0x52, 0x53, 0x60, 0x61, 0x62, 0x63, 0xFF] := by decide

/-- How many fields the kind of a selector has (R165 to R177). -/
def fieldCount (a : Byte) : Nat :=
  if a = 0x13 then 14 else if a = 0x50 then 13 else if a = 0x51 then 11
  else if a = 0x52 ∨ a = 0x53 ∨ a = 0x62 ∨ a = 0x63 then 8
  else if a = 0x61 then 6 else if a = 0xFF then 0 else 7

theorem kindOfSelector_some : ∀ a : Byte, ∀ q ∈ kindOfSelector a,
    (widthsOf q.1).length = fieldCount a ∧ (decide (q.1 = .hdr) && a.getLsbD 7) = q.2 := by decide

/-- PACK_ENC with a selector and no `B` (R161). -/
theorem packEncReply_of_selector {o : Operands} {k : PackKind} {dsf : Bool} (hk : kindOfSelector o.a = some (k, dsf))
    (hb : o.b = 0) :
    packEncReply o =
      if o.pay.length ≠ fieldCount o.a then .error .lengthMismatch
      else if packFits k (o.pay.map BitVec.toNat) then
        .ok ⟨0, encode (packInstr k (o.a.getLsbD 7) (o.pay.map BitVec.toNat))⟩
      else .error .fieldRange := by
  obtain ⟨hcount, hdsf⟩ := kindOfSelector_some o.a _ hk
  dsimp only at hcount hdsf
  rw [packEncReply, hk]
  dsimp only
  rw [if_neg (not_not.2 hb)]
  by_cases hlen : o.pay.length = fieldCount o.a
  · have hvs : (o.pay.map BitVec.toNat).length = (widthsOf k).length := by rw [List.length_map, hlen, hcount]
    rw [if_neg (not_not.2 hlen), encode_of_packOf (packOf_packInstr hvs _), hdsf, encodePack_of_length hvs]
    cases packFits k (o.pay.map BitVec.toNat) <;> rfl
  · have hvs : (o.pay.map BitVec.toNat).length ≠ (widthsOf k).length := by rwa [List.length_map, hcount]
    rw [if_pos hlen, encodePack, if_pos hvs]

/-- What a pack answers is read off the instruction it decodes to (R162). -/
theorem decodeReply_eq {bs : List Byte} (hlen : bs.length = 5) :
    decodeReply bs = match decodePackInstr bs with
      | .error _ => .error .badOperand
      | .ok i => .ok ⟨payAt bs 0, ((packOf i).map fun q => q.2.2.map byte).getD []⟩ := by
  have hpack : ¬ bs.length ≠ cfg.packLen := not_not.2 hlen
  rw [decodeReply, decodePackInstr, if_neg hpack]
  cases hd : decodePack bs with
  | none => rfl
  | some q =>
    obtain ⟨k, dsf, vs⟩ := q
    dsimp only
    rw [packOf_packInstr (decodePack_length hd)]
    rfl

/-! ### Pure commands (R103) -/

/-- A pure command's meaning is its reply to the packet. -/
theorem exec_of_isPure {i : Instr} (h : isPure i = true) : ∃ r, ∀ s, exec i s = pureCommand r s := by
  cases i with
  | profileSelect | profileDetect | kindLookup | packEnc | packDec | tcDerive | formatFrame | injectVideo
  | injectAudio | extractVideo | extractAudio | extractPack | expand12 | unpack12 | shufAddr => exact ⟨_, fun _ => rfl⟩
  | _ => cases h

end Sys2Proof.Machine

/-! ### The statements -/

namespace Sys2Proof.Proofs

open Sys2Proof.Machine Sys2Proof.Safety

/-- Settles O3: each kind's bytes hold its fields around any constant bits, and the encoder's constants are the
layout's. -/
theorem packBitLayouts : Obligations.PackBitLayouts := by
  refine ⟨fun f c1 c2 c3 c4 hfit => ?_, fun f hfit => ?_, fun f c1 c3 hfit => ?_, fun f c4 hfit => ?_,
    fun f c2 hfit => ?_, fun f c1 c4 c2 c3 hfit => ?_, fun f c2 c3 hfit => ?_, fun f c1 c2 c3 c4 hfit => ?_,
    fun c1 c2 c3 c4 => ?_⟩
  · rw [← selectorOf_hdr]
    exact ⟨decodePackInstr_of_isContent (isContent_hdr hfit c1 c2 c3 c4) hfit
        (kindOfSelector_selectorOf .hdr f.dsf fun _ => rfl),
      packEncoding_of_isContent (isContent_hdr hfit 0b11111#5 0b1111#4 0b1111#4 0b1111#4) rfl hfit f.dsf⟩
  · exact ⟨decodePackInstr_of_isContent (isContent_tc hfit) hfit rfl,
      packEncoding_of_isContent (isContent_tc hfit) rfl hfit false⟩
  · exact ⟨decodePackInstr_of_isContent (isContent_audioSource hfit c1 c3) hfit rfl,
      packEncoding_of_isContent (isContent_audioSource hfit _ _) rfl hfit false⟩
  · exact ⟨decodePackInstr_of_isContent (isContent_audioControl hfit c4) hfit rfl,
      packEncoding_of_isContent (isContent_audioControl hfit _) rfl hfit false⟩
  · have hdec := fun c => isContent_recDate hfit c
    exact ⟨decodePackInstr_of_isContent (hdec c2) hfit rfl, packEncoding_of_isContent (hdec _) rfl hfit false,
      decodePackInstr_of_isContent (k := .videoRecDate) (hdec c2) hfit rfl,
      packEncoding_of_isContent (k := .videoRecDate) (hdec _) rfl hfit false⟩
  · have hdec := fun c1 c2 c3 c4 => isContent_recTime hfit c1 c2 c3 c4
    exact ⟨decodePackInstr_of_isContent (hdec c1 c2 c3 c4) hfit rfl,
      packEncoding_of_isContent (hdec _ _ _ _) rfl hfit false,
      decodePackInstr_of_isContent (k := .videoRecTime) (hdec c1 c2 c3 c4) hfit rfl,
      packEncoding_of_isContent (k := .videoRecTime) (hdec _ _ _ _) rfl hfit false⟩
  · exact ⟨decodePackInstr_of_isContent (isContent_videoSource hfit c2 c3) hfit rfl,
      packEncoding_of_isContent (isContent_videoSource hfit _ _) rfl hfit false⟩
  · exact ⟨decodePackInstr_of_isContent (isContent_videoControl hfit c1 c2 c3 c4) hfit rfl,
      packEncoding_of_isContent (isContent_videoControl hfit _ _ _ _) rfl hfit false⟩
  · exact ⟨decodePackInstr_of_isContent (isContent_nopack c1 c2 c3 c4) rfl rfl,
      packEncoding_of_isContent (isContent_nopack _ _ _ _) rfl rfl false⟩

/-- Settles O1: format by format, the decoder reads back what the encoder of the row wrote. -/
theorem decodeOfEncode : Obligations.DecodeOfEncode := by
  intro i hwf
  cases i with
  | openMux | pushVideo | pushAudio | tryEmitFrame | openDemux | feedFrame | close | setRecdt | readStatus
  | profileSelect | profileDetect | kindLookup | packEnc | packDec | tcDerive | formatFrame | injectVideo
  | injectAudio | extractVideo | extractAudio | extractPack | expand12 | unpack12 | shufAddr =>
    exact decodeAs_packet rfl hwf
  | kHdr f => exact decodePackInstr_packEncoding (fun _ => rfl) hwf
  | kTc | kAs | kAc | kArd | kArt | kVs | kVc | kVrd | kVrt => exact decodePackInstr_packEncoding nofun hwf
  | nopack => exact decodePackInstr_packEncoding (k := .nopack) (vs := []) nofun rfl
  | sectHeader | sectSubcode | sectAux | sectAudio | sectVideo => exact decodeBlkId_blkIdEncoding hwf
  | subId f => exact decodeSubId_subIdBytes f.fr f.syb hwf
  | classOk ra rpay => exact decodeAs_responseBytes hwf rfl
  | classNotReady | classIncomplete => exact decodeAs_responseBytes rfl rfl
  | classRefused k => exact decodeAs_responseBytes rfl (responseInstr_refused (of_decide_eq_true hwf))
  | classError k => exact decodeAs_responseBytes rfl (responseInstr_error (of_decide_eq_true hwf))
  | codeNone | codeProfileUnrecognized | codeUnsupportedQuantization | codeIncompleteInput
  | codeStreamTopologyInvalid | codeBadOpcode | codeBadMode | codeBadOperand | codeFieldRange | codeLengthMismatch
  | codePackMismatch | codeFifoFull | codeSessionFailed => rfl

/-- Settles O4: the bytes of both ids, and the ranges their well-formedness tests. -/
theorem blockAndSubRecordIds : Obligations.BlockAndSubRecordIds := by
  refine ⟨fun f => ?_, fun f => ⟨subIdBytes_eq f.fr f.syb, ?_⟩, fun p s k hk => ?_⟩
  · exact ⟨blkIdEncoding_eq .header f, blkIdEncoding_eq .subcode f, blkIdEncoding_eq .aux f,
      blkIdEncoding_eq .audio f, blkIdEncoding_eq .video f,
      (blkIdFits_iff .header f).trans (and_congr_right' Nat.le_zero), blkIdFits_iff .subcode f,
      blkIdFits_iff .aux f, blkIdFits_iff .audio f, blkIdFits_iff .video f⟩
  · exact decide_eq_true_iff.trans Nat.lt_succ_iff
  · have hbytes := subIdBytes_eq (firstHalf p s) (BitVec.ofNat 4 k)
    have hhalf : (if firstHalf p s then 1#1 else 0#1) = if s < p.S / 2 then 1#1 else 0#1 :=
      if_congr decide_eq_true_iff rfl rfl
    rwa [BitVec.toNat_ofNat, Nat.mod_eq_of_lt (by omega), hhalf] at hbytes

/-- Settles O2: each word is decoded by evaluation. -/
theorem writtenWordsDecode : Obligations.WrittenWordsDecode := by
  unfold Obligations.WrittenWordsDecode
  decide

/-- Settles O15: a reply is an answer, or a condition with its code. -/
theorem pureCommands : Obligations.PureCommands := by
  intro i hi
  obtain ⟨r, hr⟩ := exec_of_isPure hi
  cases r with
  | ok v => exact ⟨⟨.ok, 0, v.ra, v.rpay⟩, hr⟩
  | error k =>
    have hcls : (kindResponse k).cls ≠ .ok := by cases k <;> decide
    exact ⟨kindResponse k, fun s => by rw [hr, if_neg hcls]; rfl⟩

/-- Settles O8: every kind is presented through the codec. -/
theorem presentedPacks : Obligations.PresentedPacks := by
  intro s
  refine ⟨fun f => ?_, fun f => presentPack_eq .tc false (tcList f) nofun rfl s,
    fun f => presentPack_eq .audioSource false (audioSourceList f) nofun rfl s,
    fun f => presentPack_eq .audioControl false (audioControlList f) nofun rfl s,
    fun f => presentPack_eq .audioRecDate false (recDateList f) nofun rfl s,
    fun f => presentPack_eq .audioRecTime false (recTimeList f) nofun rfl s,
    fun f => presentPack_eq .videoSource false (videoSourceList f) nofun rfl s,
    fun f => presentPack_eq .videoControl false (videoControlList f) nofun rfl s,
    fun f => presentPack_eq .videoRecDate false (recDateList f) nofun rfl s,
    fun f => presentPack_eq .videoRecTime false (recTimeList f) nofun rfl s,
    presentPack_eq .nopack false [] nofun rfl s⟩
  rw [← selectorOf_hdr]
  exact presentPack_eq .hdr f.dsf (hdrList f) (fun _ => rfl) rfl s

/-- Settles O10: every row is one ending. -/
theorem classAndCodeEndings : Obligations.ClassAndCodeEndings := fun _ =>
  ⟨fun _ _ => rfl, rfl, rfl, fun _ => rfl, fun _ => rfl, rfl, rfl, rfl, rfl, rfl, rfl, rfl, rfl, rfl, rfl, rfl, rfl,
    rfl⟩

/-- Settles O22: the operand tests in order, then the codec. -/
theorem packCommandRules : Obligations.PackCommandRules := by
  intro s o
  constructor
  · show pureCommand (packEncReply o) s = .next (
      if o.a.toNat ∉ [0x3F, 0xBF, 0x13, 0x50, 0x51, 0x52, 0x53, 0x60, 0x61, 0x62, 0x63, 0xFF] ∨ o.b ≠ 0 then
        endedState s .refused 0x12
      else if o.pay.length ≠ fieldCount o.a then endedState s .refused 0x14
      else if packFits (((kindOfSelector o.a).map Prod.fst).getD .nopack) (o.pay.map BitVec.toNat) then
        okState s 0 (encode (packInstr (((kindOfSelector o.a).map Prod.fst).getD .nopack) (o.a.getLsbD 7)
          (o.pay.map BitVec.toNat)))
      else endedState s .refused 0x13)
    cases hk : kindOfSelector o.a with
    | none =>
      rw [if_pos (.inl ((kindOfSelector_eq_none_iff o.a).1 hk)), packEncReply, hk]
      rfl
    | some q =>
      obtain ⟨k, dsf⟩ := q
      have hsel := mt (kindOfSelector_eq_none_iff o.a).2 (by rw [hk]; exact nofun)
      by_cases hb : o.b = 0
      · rw [if_neg (not_or.2 ⟨hsel, not_not.2 hb⟩), packEncReply_of_selector hk hb]
        split
        · rfl
        · show pureCommand (if packFits k _ then _ else _) s = .next (if packFits k _ then _ else _)
          cases packFits k (o.pay.map BitVec.toNat) <;> rfl
      · rw [if_pos (.inr hb), packEncReply, hk]
        dsimp only
        rw [if_pos hb]
        rfl
  · show pureCommand (packDecReply o) s = _
    rw [packDecReply]
    simp only [operandsZero_not_iff]
    by_cases ho : o.a ≠ 0 ∨ o.b ≠ 0
    · rw [if_pos ho, if_pos ho]
      rfl
    by_cases hlen : o.pay.length = 5
    · have hpack : ¬ lenOf o ≠ cfg.packLen := not_not.2 hlen
      rw [if_neg ho, if_neg ho, if_neg hpack, if_neg (not_not.2 hlen), decodeReply_eq hlen]
      cases decodePackInstr o.pay <;> rfl
    · rw [if_neg ho, if_neg ho, if_pos hlen, if_pos (show lenOf o ≠ cfg.packLen from hlen)]
      rfl

end Sys2Proof.Proofs
end

section
/-! PROOFS. TC_DERIVE: the closed form of the timecode label is the label that counting reaches. -/

namespace Sys2Proof.Machine

open Sys2Proof.Safety

/-! ### The label of a number (R167) -/

/-- The label that counting `N` frames without skips gives, from the second `N / ltc` and the frame number in it. -/
def labelOf (p : Profile) (N : Nat) : Label :=
  ⟨N / p.ltc / 3600 % 24, N / p.ltc / 60 % 60, N / p.ltc % 60, N % p.ltc⟩

theorem tcLabel_eq (p : Profile) (n : Nat) : tcLabel p n = labelOf p (labelNumber p n) := by
  simp only [tcLabel, labelOf, Nat.div_div_eq_div_mul, Nat.mul_comm p.ltc]

/-- The number of the label after the label of number `N`: three more where a pair of frame numbers is skipped. -/
def nextNumber (p : Profile) (N : Nat) : Nat :=
  if p.drop = true ∧ (N + 1) % p.ltc = 0 ∧ (N + 1) / p.ltc % 60 = 0 ∧ (N + 1) / p.ltc / 60 % 10 ≠ 0 then N + 3
  else N + 1

/-- Of 17982 frames the first 1800 have no skip, and then every 1798 begin with one (R167): what counts is whether
`n + 1` and `n` are past the first 1800, and whether the pair after `n` is skipped. -/
theorem labelNumber_succ {p : Profile} (hltc : p.drop = true → p.ltc = 30) (n : Nat) :
    labelNumber p (n + 1) = nextNumber p (labelNumber p n) := by
  cases hdrop : p.drop with
  | true =>
    simp only [labelNumber, nextNumber, hdrop, hltc hdrop, if_true, true_and]
    split <;> split <;> split <;> omega
  | false => simp only [labelNumber, nextNumber, hdrop, Bool.false_eq_true, false_and, if_false]

theorem succ_div_mod_of_lt {N l : Nat} (h : N % l + 1 < l) : (N + 1) / l = N / l ∧ (N + 1) % l = N % l + 1 := by
  have hN : N + 1 = l * (N / l) + (N % l + 1) := by rw [← Nat.add_assoc, Nat.div_add_mod]
  rw [hN, Nat.mul_add_div (by omega), Nat.mul_add_mod, Nat.div_eq_of_lt h, Nat.mod_eq_of_lt h]
  exact ⟨rfl, rfl⟩

/-- The last frame of a second, one and three frames on. -/
theorem add_div_mod_of_not_lt {N l : Nat} (h : ¬ N % l + 1 < l) (hl : 2 < l) :
    ((N + 1) / l = N / l + 1 ∧ (N + 1) % l = 0) ∧ (N + 3) / l = N / l + 1 ∧ (N + 3) % l = 2 := by
  have hlast : N % l + 1 = l := by
    have hlt := Nat.mod_lt N (show 0 < l by omega)
    omega
  have hN : N + 1 = l * (N / l + 1) := by
    rw [Nat.mul_add, Nat.mul_one]
    calc N + 1 = l * (N / l) + (N % l + 1) := by rw [← Nat.add_assoc, Nat.div_add_mod]
      _ = l * (N / l) + l := by rw [hlast]
  have hN3 : N + 3 = l * (N / l + 1) + 2 := by omega
  rw [hN3, hN, Nat.mul_add_div (by omega), Nat.mul_add_mod, Nat.div_eq_of_lt hl, Nat.mod_eq_of_lt hl,
    Nat.mul_div_cancel_left _ (by omega), Nat.mul_mod_right]
  exact ⟨⟨rfl, rfl⟩, rfl, rfl⟩

/-! The three steps of the counting rule: within a second, into the next second, into the next minute. -/

theorem nextLabel_frame {p : Profile} {l : Label} (hf : l.f + 1 < p.ltc) :
    nextLabel p l = ⟨l.h, l.m, l.s, l.f + 1⟩ := if_pos hf

theorem nextLabel_second {p : Profile} {l : Label} (hf : ¬ l.f + 1 < p.ltc) (hs : l.s + 1 < 60) :
    nextLabel p l = ⟨l.h, l.m, l.s + 1, 0⟩ := (if_neg hf).trans (if_pos hs)

theorem nextLabel_minute {p : Profile} {l : Label} (hf : ¬ l.f + 1 < p.ltc) (hs : ¬ l.s + 1 < 60) :
    nextLabel p l = ⟨if l.m + 1 < 60 then l.h else (l.h + 1) % 24, (l.m + 1) % 60, 0,
      if p.drop = true ∧ (l.m + 1) % 60 % 10 ≠ 0 then 2 else 0⟩ := (if_neg hf).trans (if_neg hs)

/-- Counting upward from a label is adding to its number (R167). -/
theorem nextLabel_labelOf {p : Profile} (hltc : 2 < p.ltc) (N : Nat) :
    nextLabel p (labelOf p N) = labelOf p (nextNumber p N) := by
  by_cases hf : (labelOf p N).f + 1 < p.ltc
  · obtain ⟨hdiv, hmod⟩ := succ_div_mod_of_lt hf
    have hnum : nextNumber p N = N + 1 := if_neg (by omega)
    rw [nextLabel_frame hf, hnum, labelOf, labelOf, hdiv, hmod]
  obtain ⟨⟨hdiv, hmod⟩, hdiv3, hmod3⟩ := add_div_mod_of_not_lt hf hltc
  by_cases hs : N / p.ltc % 60 + 1 < 60
  · have hnum : nextNumber p N = N + 1 := if_neg (by omega)
    rw [nextLabel_second hf hs, hnum]
    simp only [labelOf, hdiv, hmod, Label.mk.injEq]
    exact ⟨by omega, by omega, by omega, trivial⟩
  have hzero : (N / p.ltc + 1) % 60 = 0 := by omega
  have hten : (N / p.ltc / 60 % 60 + 1) % 60 % 10 = (N / p.ltc + 1) / 60 % 10 := by omega
  have hhour : (if N / p.ltc / 60 % 60 + 1 < 60 then N / p.ltc / 3600 % 24 else (N / p.ltc / 3600 % 24 + 1) % 24) =
      (N / p.ltc + 1) / 3600 % 24 := by
    split <;> omega
  rw [nextLabel_minute hf hs]
  by_cases hskip : p.drop = true ∧ (N / p.ltc + 1) / 60 % 10 ≠ 0
  · obtain ⟨hdrop, hnext⟩ := hskip
    have hnum : nextNumber p N = N + 3 := if_pos ⟨hdrop, hmod, hdiv ▸ hzero, hdiv ▸ hnext⟩
    simp only [hnum, labelOf, hdiv3, hmod3, hten, Label.mk.injEq]
    exact ⟨hhour, by omega, hzero.symm, if_pos ⟨hdrop, hnext⟩⟩
  · have hnum : nextNumber p N = N + 1 := if_neg fun ⟨hdrop, _, _, hnext⟩ => hskip ⟨hdrop, hdiv ▸ hnext⟩
    simp only [hnum, labelOf, hdiv, hmod, hten, Label.mk.injEq]
    exact ⟨hhour, by omega, hzero.symm, if_neg hskip⟩

theorem ltc_of_mem : ∀ p ∈ cfg.prof, 2 < p.ltc ∧ (p.drop = true → p.ltc = 30) := by decide

/-- The closed form of R167 is the counting rule. -/
theorem countLabel_eq_tcLabel {p : Profile} (hp : p ∈ cfg.prof) (n : Nat) : countLabel p n = tcLabel p n := by
  obtain ⟨hltc, hdrop⟩ := ltc_of_mem p hp
  induction n with
  | zero =>
    have hzero : labelNumber p 0 = 0 := by cases hd : p.drop <;> simp [labelNumber, hd]
    rw [tcLabel_eq, hzero]
    simp only [labelOf, Nat.zero_div, Nat.zero_mod]
    rfl
  | succ n ih => rw [countLabel, ih, tcLabel_eq, tcLabel_eq, labelNumber_succ hdrop, nextLabel_labelOf hltc]

theorem tcDeriveReply_eq (o : Operands) :
    tcDeriveReply o = withProfile o fun p =>
      if lenOf o ≠ 8 then .error .lengthMismatch
      else .ok ⟨0, [byte (tcLabel p (leNat o.pay)).h, byte (tcLabel p (leNat o.pay)).m,
        byte (tcLabel p (leNat o.pay)).s, byte (tcLabel p (leNat o.pay)).f, byte p.drop.toNat]⟩ := by
  unfold tcDeriveReply withProfile
  cases profileAt o.a <;> rfl

end Sys2Proof.Machine

/-! ### The statement -/

namespace Sys2Proof.Proofs

open Sys2Proof.Machine Sys2Proof.Safety

/-- Settles O23: the counting rule by induction on `n`. -/
theorem timecodeFollowsTheCountingRule : Obligations.TimecodeFollowsTheCountingRule := by
  refine ⟨fun s r n p hr hn => ?_, fun s o ho => ?_, fun s o ha hb hlen => ?_⟩
  · have hread : leNat (leBytes 8 n) = n := leNat_leBytes hn
    have hflag : byte p.drop.toNat = if p.drop then 1 else 0 := by cases p.drop <;> rfl
    refine pureCommand_eq_okState.2 ?_
    rw [countLabel_eq_tcLabel (List.mem_of_getElem? hr), ← hflag, tcDeriveReply_eq, withProfile_of_prof hr, hread]
    rfl
  · show pureCommand (tcDeriveReply o) s = _
    rw [tcDeriveReply_eq, withProfile_refused ho]
    rfl
  · obtain ⟨p, hp, -⟩ := profileAt_segments (Nat.not_le.2 ha)
    show pureCommand (tcDeriveReply o) s = _
    rw [tcDeriveReply, hp]
    dsimp only
    rw [if_neg (not_not.2 hb), if_pos (show lenOf o ≠ 8 from hlen)]
    rfl

end Sys2Proof.Proofs
end

section
/-! PROOFS. The extractors and the 12-bit codes: EXTRACT_VIDEO, EXTRACT_AUDIO where it answers no samples, UNPACK12 and
EXPAND12. -/

namespace Sys2Proof.Machine

open Sys2Proof.Safety

/-! ### Video extraction (R210) -/

theorem extractVideoReply_eq (o : Operands) :
    extractVideoReply o = withProfile o fun p =>
      if lenOf o ≠ p.frameSize then .error .lengthMismatch else .ok ⟨0, extractVideo p o.pay.toArray⟩ := by
  unfold extractVideoReply withProfile
  cases profileAt o.a <;> rfl

/-- Byte `i` of the extracted unit is the byte at the `i`-th payload address. -/
theorem payAt_extractVideo {p : Profile} (F : Buffer) {i : Nat} (hi : i < videoUnit p) :
    payAt (extractVideo p F) i = bufAt F (videoPayAddr i) := by
  have hlen : i < (((List.range (videoUnit p)).map videoPayAddr).map (bufAt F)).length := by
    rwa [List.length_map, List.length_map, List.length_range]
  rw [extractVideo, videoAddrs_eq_map_range, payAt, List.getD_eq_getElem _ _ hlen, List.getElem_map, List.getElem_map,
    List.getElem_range]

theorem extractVideo_length (p : Profile) (F : Buffer) : (extractVideo p F).length = videoUnit p := by
  rw [extractVideo, List.length_map, videoAddrs_length]

/-! ### The audio source pack (R243) -/

/-- The answer to a frame whose audio source pack says `a` (R244). -/
def audioReply (p : Profile) (F : Buffer) (a : Option AudioParams) : Reply :=
  a.elim ⟨0, [0, 0, 0, 0] ++ leBytes 4 0⟩ fun ap =>
    ⟨byte ap.ns, [byte ap.ns, byte ap.smp, byte ap.qu, 0] ++ leBytes 4 ap.size ++ allPcm p F ap⟩

theorem extractAudioReply_eq (o : Operands) :
    extractAudioReply o = withProfile o fun p =>
      if lenOf o ≠ p.frameSize then .error .lengthMismatch
      else (audioParams p o.pay.toArray).map (audioReply p o.pay.toArray) := by
  unfold extractAudioReply withProfile
  cases profileAt o.a with
  | none => rfl
  | some p => rcases hap : audioParams p o.pay.toArray with e | _ | ap <;> simp only [Option.elim_some, hap] <;> rfl

theorem extractAudioReply_of_length {r : Nat} {p : Profile} (hp : cfg.prof[r]? = some p) {F : List Byte}
    (hF : F.length = p.frameSize) {a : Except Kind (Option AudioParams)} (ha : audioParams p F.toArray = a) :
    extractAudioReply ⟨byte r, 0, F⟩ = a.map (audioReply p F.toArray) := by
  rw [extractAudioReply_eq, withProfile_of_prof hp, lenOf, if_neg (not_not.2 hF), ha]

/-- What the audio source pack says, bit field by bit field; the quantization code is tested before the frequency
code. -/
theorem audioParams_eq (p : Profile) (F : List Byte) :
    audioParams p F.toArray =
      if payAt F 4323 ≠ 0x50 then .ok none
      else if (payAt F 4327).toNat % 8 > 1 then .error .unsupportedQuantization
      else if (payAt F 4327).toNat / 8 % 8 > 2 then .error .profileUnrecognized
      else .ok (some
        ⟨if ((payAt F 4327).toNat % 8 = 1 ∧ (payAt F 4327).toNat / 8 % 8 = 2) ∨
            ((payAt F 4327).toNat % 8 = 0 ∧ (payAt F 4326).toNat % 32 = 2 ∧ p.C = 2) then 2 else 1,
          (payAt F 4327).toNat / 8 % 8, (payAt F 4327).toNat % 8,
          4 * (p.mins.getD ((payAt F 4327).toNat / 8 % 8) 0 + (payAt F 4324).toNat % 64)⟩) := by
  have hlow : ∀ (v : Byte) (hi : Nat), bits v hi 0 = v.toNat % 2 ^ (hi + 1) := fun v hi => by
    rw [bits, Nat.pow_zero, Nat.div_one, Nat.sub_zero]
  have hfreq : ∀ v : Byte, bits v 5 3 = v.toNat / 8 % 8 := fun _ => rfl
  simp only [audioParams, bufAt_toArray, hlow, hfreq]
  rfl

/-! ### 12-bit codes (R240, R241) -/

theorem unpack12_toNat (b0 b1 b2 : Byte) :
    (unpack12 b0 b1 b2).1.toNat = b0.toNat * 16 + b2.toNat / 16 ∧
      (unpack12 b0 b1 b2).2.toNat = b1.toNat * 16 + b2.toNat % 16 := by
  have hb := b2.isLt
  have hhigh : (b2.extractLsb' 4 4).toNat = b2.toNat / 16 := by
    rw [BitVec.extractLsb'_toNat, Nat.shiftRight_eq_div_pow]
    omega
  have hlow : (b2.extractLsb' 0 4).toNat = b2.toNat % 16 := by rw [BitVec.extractLsb'_toNat, Nat.shiftRight_zero]
  exact ⟨by rw [← hhigh]; exact toNat_append_eq _ _, by rw [← hlow]; exact toNat_append_eq _ _⟩

/-- The pseudocode of R241 on plain numbers. -/
def expandNumber (code : Nat) : Nat :=
  let v := if code < 0x800 then code else code + 0xF000
  let sel := v / 256 % 16
  if sel ≤ 1 ∨ sel ≥ 14 then v
  else if sel ≤ 7 then (v - 256 * (sel - 1)) * 2 ^ (sel - 1)
  else (v + 256 * (14 - sel) + 1) * 2 ^ (14 - sel) - 1

theorem signExtend_code (c : BitVec 12) :
    (c.signExtend 16).toNat = if c.toNat < 0x800 then c.toNat else c.toNat + 0xF000 := by
  have hlt := c.isLt
  simp only [BitVec.toNat_signExtend, BitVec.toNat_setWidth, BitVec.msb_eq_decide, decide_eq_true_eq]
  split <;> split <;> omega

theorem selector_code (c : BitVec 12) :
    (c.extractLsb' 8 4).toNat = (if c.toNat < 0x800 then c.toNat else c.toNat + 0xF000) / 256 % 16 := by
  have hlt := c.isLt
  rw [BitVec.extractLsb'_toNat, Nat.shiftRight_eq_div_pow]
  split <;> omega

/-- The arithmetic of the model is that of R241 modulo `2 ^ 16`. -/
theorem expand12_toNat (c : BitVec 12) : (expand12 c).toNat = expandNumber c.toNat % 65536 := by
  have hv := signExtend_code c
  have hlt := (c.signExtend 16).isLt
  simp only [expand12, expandNumber, selector_code, ← hv]
  generalize c.signExtend 16 = v at hlt
  generalize hsel : v.toNat / 256 % 16 = sel
  split
  · exact (Nat.mod_eq_of_lt hlt).symm
  split
  · have hoffset : (BitVec.ofNat 16 (256 * (sel - 1))).toNat = 256 * (sel - 1) := Nat.mod_eq_of_lt (by omega)
    have hle : BitVec.ofNat 16 (256 * (sel - 1)) ≤ v := by rw [BitVec.le_def, hoffset]; omega
    rw [BitVec.toNat_shiftLeft, Nat.shiftLeft_eq, BitVec.toNat_sub_of_le hle, hoffset]
  · have hpos : 0 < (v.toNat + 256 * (14 - sel) + 1) * 2 ^ (14 - sel) :=
      Nat.mul_pos (Nat.succ_pos _) (Nat.two_pow_pos _)
    have hone : (1 : BitVec 16).toNat = 1 := rfl
    have hsum : (v + BitVec.ofNat 16 (256 * (14 - sel)) + 1).toNat = (v.toNat + 256 * (14 - sel) + 1) % 65536 := by
      rw [BitVec.toNat_add, BitVec.toNat_add, BitVec.toNat_ofNat, hone]
      omega
    rw [BitVec.toNat_sub, BitVec.toNat_shiftLeft, Nat.shiftLeft_eq, hsum, hone, Nat.mod_mul_mod]
    omega

/-- The size of an expanded code: of the code itself in its first two segments of 256, then twice as steep with every
segment (R241). -/
def magnitude (y : Nat) : Nat := (y - 256 * (y / 256 - 1)) * 2 ^ (y / 256 - 1)

/-- A segment ends where the next begins. -/
theorem magnitude_lt_succ (y : Nat) : magnitude y < magnitude (y + 1) := by
  by_cases hsame : (y + 1) / 256 = y / 256
  · rw [magnitude, magnitude, hsame]
    exact Nat.mul_lt_mul_of_pos_right (by omega) (Nat.two_pow_pos _)
  obtain ⟨j, rfl⟩ : ∃ j, y = 256 * j + 255 := ⟨y / 256, by omega⟩
  have hlast : (256 * j + 255) / 256 = j := by omega
  have hfirst : (256 * j + 255 + 1) / 256 = j + 1 := by omega
  rw [magnitude, magnitude, hlast, hfirst, Nat.add_sub_cancel]
  cases j with
  | zero => decide
  | succ i =>
    have hbelow : 256 * (i + 1) + 255 - 256 * i = 511 := by omega
    have habove : 256 * (i + 1) + 255 + 1 - 256 * (i + 1) = 256 := by omega
    have hpow := Nat.two_pow_pos i
    rw [Nat.add_sub_cancel, Nat.pow_succ, hbelow, habove]
    omega

theorem magnitude_strictMono : StrictMono magnitude := strictMono_nat_of_lt_succ magnitude_lt_succ

theorem magnitude_le {y : Nat} (hy : y ≤ 2047) : magnitude y ≤ 32704 := magnitude_strictMono.monotone hy

theorem magnitude_of_small {y : Nat} (hy : y / 256 ≤ 1) : magnitude y = y := by
  rw [magnitude, Nat.sub_eq_zero_of_le hy]
  omega

/-- A code below `0x800` expands to its magnitude, and the others to the complement of their complement's (R241). -/
theorem expandNumber_eq {code : Nat} (h : code < 4096) :
    expandNumber code % 65536 = if code < 0x800 then magnitude code else 65535 - magnitude (4095 - code) := by
  rw [expandNumber]
  split
  · next hlow =>
    have hsel : code / 256 % 16 = code / 256 := by omega
    have hle := magnitude_le (show code ≤ 2047 by omega)
    rw [hsel]
    split
    · rw [magnitude_of_small (by omega)]
      omega
    · rw [if_pos (by omega), ← magnitude]
      omega
  · next hhigh =>
    obtain ⟨y, hy, rfl⟩ : ∃ y ≤ 2047, code = 4095 - y := ⟨4095 - code, by omega, by omega⟩
    have hle := magnitude_le hy
    have hself : 4095 - (4095 - y) = y := by omega
    have hsel : (4095 - y + 0xF000) / 256 % 16 = 15 - y / 256 := by omega
    rw [hself, hsel]
    split
    · rw [magnitude_of_small (by omega)]
      omega
    · rw [if_neg (by omega)]
      have hk : 14 - (15 - y / 256) = y / 256 - 1 := by omega
      have hsum : 4095 - y + 0xF000 + 256 * (y / 256 - 1) + 1 = 65536 - (y - 256 * (y / 256 - 1)) := by omega
      have hpow := Nat.two_pow_pos (y / 256 - 1)
      rw [hk, hsum, Nat.mul_comm, Nat.mul_sub, Nat.mul_comm _ (y - _), ← magnitude]
      omega

/-- The expansion of a code, as its two's complement number. -/
theorem expand12_toInt (c : BitVec 12) :
    (expand12 c).toInt =
      if c.toNat < 0x800 then (magnitude c.toNat : Int) else -1 - (magnitude (4095 - c.toNat) : Int) := by
  have hlt := c.isLt
  rw [BitVec.toInt_eq_toNat_cond, expand12_toNat, expandNumber_eq hlt]
  split
  · next hlow =>
    have hle := magnitude_le (show c.toNat ≤ 2047 by omega)
    rw [if_pos (by omega)]
  · next hhigh =>
    have hle := magnitude_le (show 4095 - c.toNat ≤ 2047 by omega)
    rw [if_neg (by omega)]
    omega

/-- A greater code expands to a greater sample (R241 (c)). -/
theorem expand12_strictMono {c c' : BitVec 12} (h : c.toInt < c'.toInt) : (expand12 c).toInt < (expand12 c').toInt := by
  have hlt := c.isLt
  have hlt' := c'.isLt
  rw [BitVec.toInt_eq_toNat_cond, BitVec.toInt_eq_toNat_cond] at h
  rw [expand12_toInt, expand12_toInt]
  by_cases hc : c.toNat < 0x800
  · have hc' : c'.toNat < 0x800 := by omega
    have hmono : magnitude c.toNat < magnitude c'.toNat := magnitude_strictMono (by omega)
    rw [if_pos hc, if_pos hc']
    omega
  rw [if_neg hc]
  by_cases hc' : c'.toNat < 0x800
  · rw [if_pos hc']
    omega
  · have hmono : magnitude (4095 - c'.toNat) < magnitude (4095 - c.toNat) := magnitude_strictMono (by omega)
    rw [if_neg hc']
    omega

theorem byte_mod (n : Nat) : byte (n % 256) = byte n := by
  refine BitVec.eq_of_toNat_eq ?_
  rw [byte_toNat, byte_toNat, Nat.mod_mod]

/-- EXPAND12 of a code: the two bytes of the expansion, low byte first (R241). -/
theorem expand12Reply_of_code {code : Nat} (h : code < 4096) :
    expand12Reply ⟨0, BitVec.ofNat 16 code, []⟩ =
      .ok ⟨0, [byte (expandNumber code % 65536 % 256), byte (expandNumber code % 65536 / 256)]⟩ := by
  have hb : (BitVec.ofNat 16 code).toNat = code := Nat.mod_eq_of_lt (by omega)
  have hcode : ((BitVec.ofNat 16 code).setWidth 12).toNat = code := by
    rw [BitVec.toNat_setWidth, hb]
    omega
  have htests : ¬ ((0 : Byte) ≠ 0 ∨ (BitVec.ofNat 16 code).toNat ≥ 4096) := by
    rw [hb]
    exact not_or.2 ⟨not_not.2 rfl, by omega⟩
  rw [expand12Reply, if_neg htests, byte_mod]
  show Except.ok (⟨0, leBytes 2 (expand12 _).toNat⟩ : Reply) = _
  rw [expand12_toNat, hcode]
  rfl

end Sys2Proof.Machine

/-! ### The statements -/

namespace Sys2Proof.Proofs

open Sys2Proof.Machine Sys2Proof.Safety

/-- Settles O29: the unit's bytes by their position. -/
theorem extractVideoRule : Obligations.ExtractVideoRule := by
  refine fun s r p hr => ⟨fun F hF => ?_, fun pay hpay => ?_, fun o ho => ?_⟩
  · have hreply : extractVideoReply ⟨byte r, 0, F⟩ = .ok ⟨0, extractVideo p F.toArray⟩ := by
      rw [extractVideoReply_eq, withProfile_of_prof hr, lenOf, if_neg (not_not.2 hF)]
    refine ⟨_, pureCommand_eq_okState.2 hreply, extractVideo_length p _, fun c sg v j hc hs hv hj => ?_⟩
    have hq := segmentNumber_lt hc hs
    rw [payAt_extractVideo _ (by rw [videoUnit_eq]; omega), videoPayAddr_position p c sg hv hj, bufAt_toArray]
  · show pureCommand (extractVideoReply ⟨byte r, 0, pay⟩) s = _
    rw [extractVideoReply_eq, withProfile_of_prof hr]
    exact congrArg (pureCommand · s) (if_pos hpay)
  · show pureCommand (extractVideoReply o) s = _
    rw [extractVideoReply_eq, withProfile_refused ho]
    rfl

/-- Settles O39: the tests of the audio source pack in their order. -/
theorem extractAudioOtherwise : Obligations.ExtractAudioOtherwise := by
  refine fun s r p hr => ⟨fun F hF => ⟨fun hnone => ?_, fun hpack hq => ?_, fun hpack hq hf => ?_⟩, fun pay hpay => ?_,
    fun o ho => ?_⟩
  · have hparams : audioParams p F.toArray = .ok none := by rw [audioParams_eq, if_pos hnone]
    exact pureCommand_eq_okState.2 (extractAudioReply_of_length hr hF hparams)
  · have hparams : audioParams p F.toArray = .error .unsupportedQuantization := by
      rw [audioParams_eq, if_neg (not_not.2 hpack), if_pos hq]
    exact congrArg (pureCommand · s) (extractAudioReply_of_length hr hF hparams)
  · have hparams : audioParams p F.toArray = .error .profileUnrecognized := by
      rw [audioParams_eq, if_neg (not_not.2 hpack), if_neg (Nat.not_lt.2 hq), if_pos hf]
    exact congrArg (pureCommand · s) (extractAudioReply_of_length hr hF hparams)
  · show pureCommand (extractAudioReply ⟨byte r, 0, pay⟩) s = _
    rw [extractAudioReply_eq, withProfile_of_prof hr]
    exact congrArg (pureCommand · s) (if_pos hpay)
  · show pureCommand (extractAudioReply o) s = _
    rw [extractAudioReply_eq, withProfile_refused ho]
    rfl

/-- Settles O41: the bytes of the two codes, and the operand tests. -/
theorem unpack12Rule : Obligations.Unpack12Rule := by
  refine ⟨fun _ => rfl, fun s b0 b1 b2 => ?_, fun s pay hpay => ?_, fun s o ho => ?_⟩
  · obtain ⟨hleft, hright⟩ := unpack12_toNat b0 b1 b2
    rw [← hleft, ← hright]
    exact (pureCommand_eq_okState (r := unpack12Reply ⟨0, 0, [b0, b1, b2]⟩)).2 rfl
  · show pureCommand (unpack12Reply ⟨0, 0, pay⟩) s = _
    exact congrArg (pureCommand · s) (if_pos hpay)
  · show pureCommand (unpack12Reply o) s = _
    rw [unpack12Reply, if_pos ((operandsZero_not_iff o).2 ho)]
    rfl

/-- Settles O42: the pseudocode modulo `2 ^ 16`, whose values are strictly increasing in the code. -/
theorem expand12Rule : Obligations.Expand12Rule := by
  refine ⟨fun _ => rfl, fun s code hcode => pureCommand_eq_okState.2 (expand12Reply_of_code hcode), fun s o ho => ?_,
    fun s o ha hb hpay => ?_, fun c c' _ h => expand12_strictMono h, rfl, rfl⟩
  · show pureCommand (expand12Reply o) s = _
    rw [expand12Reply, if_pos ho]
    rfl
  · show pureCommand (expand12Reply o) s = _
    rw [expand12Reply, if_neg (not_or.2 ⟨not_not.2 ha, Nat.not_le.2 hb⟩), if_pos ((lenOf_ne_zero_iff o).2 hpay)]
    rfl

end Sys2Proof.Proofs
end

section
/-! PROOFS. What OPEN_MUX refuses: its checks in the order of R262, each in the terms of the payload's bytes. -/

namespace Sys2Proof.Machine

open Sys2Proof.Safety

/-! ### The parts of an OPEN_MUX payload (R262) -/

theorem slice_eq_map_payAt {bs : List Byte} {a n : Nat} (h : a + n ≤ bs.length) :
    slice bs a n = (List.range n).map fun i => payAt bs (a + i) := by
  refine List.ext_getElem (by simp [slice]; omega) fun i hi _ => ?_
  have hlt : a + i < bs.length := by
    simp only [slice, List.length_take, List.length_drop] at hi
    omega
  simp only [slice, List.getElem_take, List.getElem_drop, List.getElem_map, List.getElem_range, payAt,
    List.getD_eq_getElem _ _ hlt]

theorem reservedZero_muxDescOf {bs : List Byte} (h : 12 ≤ bs.length) :
    reservedZero (muxDescOf bs) = true ↔ payAt bs 9 = 0 ∧ payAt bs 10 = 0 ∧ payAt bs 11 = 0 ∧
      ∀ i < (payAt bs 8).toNat, payAt bs (15 + 8 * i) = 0 := by
  have hreserved : slice bs 9 3 = [payAt bs 9, payAt bs 10, payAt bs 11] := slice_eq_map_payAt h
  simp only [reservedZero, muxDescOf, hreserved, audioCount, audioDescAt, Bool.and_eq_true, List.all_map,
    List.all_eq_true, List.forall_mem_cons, List.mem_range, Function.comp_apply, beq_iff_eq, and_assoc]
  simp

theorem audioSupported_muxDescOf (bs : List Byte) :
    (muxDescOf bs).audio.all audioSupported = true ↔ ∀ i < (payAt bs 8).toNat,
      payAt bs (12 + 8 * i) = 0 ∧ payAt bs (13 + 8 * i) = 2 ∧ payAt bs (14 + 8 * i) = 16 ∧
        leNat (slice bs (16 + 8 * i) 4) = 48000 := by
  simp only [muxDescOf, audioCount, audioDescAt, audioSupported, Bool.and_eq_true, List.all_map, List.all_eq_true,
    List.mem_range, Function.comp_apply, beq_iff_eq, and_assoc]

/-- A triple that is found is one of the four profiles' (R41, R142). -/
theorem selectProfile_some {C S F r : Nat} (h : selectProfile C S F = some r) :
    (C, S, F) = (1, 10, 120000) ∨ (C, S, F) = (1, 12, 144000) ∨ (C, S, F) = (2, 10, 240000) ∨
      (C, S, F) = (2, 12, 288000) := by
  obtain ⟨hr, hq, -⟩ := List.findIdx?_eq_some_iff_getElem.1 h
  simp only [Bool.and_eq_true, beq_iff_eq] at hq
  obtain ⟨⟨rfl, rfl⟩, rfl⟩ := hq
  have hall : ∀ p ∈ cfg.prof, (p.C, p.S, p.frameSize) = (1, 10, 120000) ∨ (p.C, p.S, p.frameSize) = (1, 12, 144000) ∨
    (p.C, p.S, p.frameSize) = (2, 10, 240000) ∨ (p.C, p.S, p.frameSize) = (2, 12, 288000) := by decide
  exact hall _ (List.getElem_mem hr)

/-! ### The checks in order -/

theorem exec_openMux_badOperand {s : State} (hm : s.mode = .closed) {o : Operands} (ho : o.a ≠ 0 ∨ o.b ≠ 0) :
    exec (.openMux o) s = .next (endedState s .refused 0x12) := by
  show openMux o s = _
  rw [openMux, modeRefusal_self hm (by decide)]
  exact if_pos ((operandsZero_not_iff o).2 ho)

theorem exec_openMux_of_error {s : State} (hm : s.mode = .closed) {o : Operands} (ha : o.a = 0) (hb : o.b = 0)
    {k : Kind} (hk : muxTopology o = .error k) : exec (.openMux o) s = .next (s.raise k) := by
  have hzero : ¬ (!operandsZero o) = true := by rw [operandsZero_not_iff]; tauto
  show openMux o s = _
  rw [openMux, modeRefusal_self hm (by decide)]
  dsimp only
  rw [if_neg hzero, hk]

section Checks

variable {o : Operands}

theorem muxTopology_short (h : o.pay.length < 12) : muxTopology o = .error .lengthMismatch := if_pos h

theorem muxTopology_streams (hlen : 12 ≤ o.pay.length) (hn : (payAt o.pay 8).toNat > 2) :
    muxTopology o = .error .streamTopologyInvalid := (if_neg (Nat.not_lt.2 hlen)).trans (if_pos hn)

theorem muxTopology_length (hlen : 12 ≤ o.pay.length) (hn : (payAt o.pay 8).toNat ≤ 2)
    (hne : o.pay.length ≠ 12 + 8 * (payAt o.pay 8).toNat) : muxTopology o = .error .lengthMismatch :=
  (if_neg (Nat.not_lt.2 hlen)).trans ((if_neg (Nat.not_lt.2 hn)).trans (if_pos hne))

/-- A topology that is taken has codec DV, a profile's triple and supported streams, one a DIF channel at most. -/
theorem topology_of_muxTopology_ok {r : Nat} (h : muxTopology o = .ok r) :
    payAt o.pay 0 = 0 ∧
      selectProfile (payAt o.pay 1).toNat (payAt o.pay 2).toNat (leNat (slice o.pay 4 4)) = some r ∧
      (muxDescOf o.pay).audio.all audioSupported = true ∧ (payAt o.pay 8).toNat ≤ (payAt o.pay 1).toNat := by
  unfold muxTopology at h
  split at h; · cases h
  split at h; · cases h
  split at h; · cases h
  dsimp only at h
  split at h; · cases h
  split at h; · cases h
  split at h; · cases h
  next hcodec =>
    split at h
    · cases h
    · next r' hprof =>
      split at h; · cases h
      next haudio =>
        split at h; · cases h
        next hcount =>
          cases h
          exact ⟨not_not.1 hcodec, hprof, by simpa using haudio, Nat.not_lt.1 hcount⟩

variable (hn : (payAt o.pay 8).toNat ≤ 2) (hlen : o.pay.length = 12 + 8 * (payAt o.pay 8).toNat)
include hn hlen

theorem muxTopology_lengths :
    ¬ lenOf o < 12 ∧ ¬ audioCount o.pay > 2 ∧ ¬ lenOf o ≠ 12 + 8 * audioCount o.pay :=
  ⟨Nat.not_lt.2 (by rw [lenOf]; omega), Nat.not_lt.2 hn, not_not.2 hlen⟩

theorem muxTopology_reserved (hres : ¬ reservedZero (muxDescOf o.pay) = true) :
    muxTopology o = .error .badOperand := by
  obtain ⟨hshort, hcount, hfit⟩ := muxTopology_lengths hn hlen
  rw [muxTopology, if_neg hshort, if_neg hcount, if_neg hfit]
  exact if_pos (by simpa using hres)

theorem muxTopology_aspect (hres : reservedZero (muxDescOf o.pay) = true) (haspect : (payAt o.pay 3).toNat > 7) :
    muxTopology o = .error .fieldRange := by
  obtain ⟨hshort, hcount, hfit⟩ := muxTopology_lengths hn hlen
  have hkept : ¬ (!reservedZero (muxDescOf o.pay)) = true := by rw [hres]; decide
  rw [muxTopology, if_neg hshort, if_neg hcount, if_neg hfit]
  exact (if_neg hkept).trans (if_pos haspect)

/-- Behind the lengths, the reserved bytes and the aspect code, only the topology is refused. -/
theorem muxTopology_error_eq (hres : reservedZero (muxDescOf o.pay) = true) (haspect : (payAt o.pay 3).toNat ≤ 7)
    {k : Kind} (h : muxTopology o = .error k) : k = .streamTopologyInvalid := by
  obtain ⟨hshort, hcount, hfit⟩ := muxTopology_lengths hn hlen
  have hkept : ¬ (!reservedZero (muxDescOf o.pay)) = true := by rw [hres]; decide
  have hcode : ¬ (muxDescOf o.pay).aspect > 7 := Nat.not_lt.2 haspect
  rw [muxTopology, if_neg hshort, if_neg hcount, if_neg hfit] at h
  dsimp only at h
  rw [if_neg hkept, if_neg hcode] at h
  split at h
  · exact (Except.error.inj h).symm
  split at h
  · exact (Except.error.inj h).symm
  split at h
  · exact (Except.error.inj h).symm
  split at h
  · exact (Except.error.inj h).symm
  · cases h

end Checks

end Sys2Proof.Machine

/-! ### The statement -/

namespace Sys2Proof.Proofs

open Sys2Proof.Machine Sys2Proof.Safety

/-- Settles O44: the checks in their order, and what passes them all is a supported topology. -/
theorem openMuxRejects : Obligations.OpenMuxRejects := by
  refine ⟨fun s o hm ho => exec_openMux_badOperand hm ho, fun s o hm ha hb => ?_⟩
  refine ⟨fun hshort => ?_, fun hlen hn => ?_, fun hlen hn hne => ?_, fun hn hlen => ⟨fun hres => ?_,
    fun h9 h10 h11 h15 => ⟨fun haspect => ?_, fun haspect hout => ?_⟩⟩⟩
  · exact exec_openMux_of_error hm ha hb (muxTopology_short hshort)
  · exact exec_openMux_of_error hm ha hb (muxTopology_streams hlen hn)
  · exact exec_openMux_of_error hm ha hb (muxTopology_length hlen hn hne)
  · have hzero : ¬ reservedZero (muxDescOf o.pay) = true := by
      rw [reservedZero_muxDescOf (by omega)]
      rintro ⟨h9, h10, h11, h15⟩
      rcases hres with h | h | h | ⟨i, hi, h⟩
      · exact h h9
      · exact h h10
      · exact h h11
      · exact h (h15 i hi)
    exact exec_openMux_of_error hm ha hb (muxTopology_reserved hn hlen hzero)
  all_goals have hzero := (reservedZero_muxDescOf (by omega)).2 ⟨h9, h10, h11, h15⟩
  · exact exec_openMux_of_error hm ha hb (muxTopology_aspect hn hlen hzero haspect)
  · cases hk : muxTopology o with
    | error k =>
      obtain rfl := muxTopology_error_eq hn hlen hzero haspect hk
      exact exec_openMux_of_error hm ha hb hk
    | ok r =>
      obtain ⟨hcodec, hprof, haudio, hC⟩ := topology_of_muxTopology_ok hk
      exact absurd ⟨hcodec, selectProfile_some hprof, (audioSupported_muxDescOf o.pay).1 haudio, hC⟩ hout

end Sys2Proof.Proofs
end

section
/-! PROOFS. The profile that a triple or a frame's bytes name: PROFILE_SELECT, PROFILE_DETECT, and the detection of a
skeleton. -/

namespace Sys2Proof.Machine

open Sys2Proof.Safety

/-! ### Selection (R142) -/

/-- The table search is a comparison with the four triples of R41. -/
theorem selectProfile_eq (C S F : Nat) :
    selectProfile C S F =
      if (C, S, F) = (1, 10, 120000) then some 0
      else if (C, S, F) = (1, 12, 144000) then some 1
      else if (C, S, F) = (2, 10, 240000) then some 2
      else if (C, S, F) = (2, 12, 288000) then some 3
      else none := by
  split_ifs with h0 h1 h2 h3
  · cases h0; rfl
  · cases h1; rfl
  · cases h2; rfl
  · cases h3; rfl
  · cases hsel : selectProfile C S F with
    | none => rfl
    | some r => exact absurd (selectProfile_some hsel) (by tauto)

/-! ### Detection (R144) -/

/-- The ids count the two flags of R144: `dsf` is bit 0, and two channels are bit 1. -/
theorem findIdx?_dsf_channels : ∀ dsf two : Bool,
    cfg.prof.findIdx? (fun q => q.dsf == dsf && q.C == if two then 2 else 1) =
      some ((if dsf then 1 else 0) + if two then 2 else 0) := by decide

/-- What the bytes 0, 3, 448 and 451 of a buffer say. -/
theorem detectProfile_eq (buf : List Byte) :
    detectProfile buf =
      if payAt buf 0 ≠ 0x1F ∨ payAt buf 3 &&& 0x7F ≠ 0x3F then none
      else some ((if (payAt buf 3).getLsbD 7 then 1 else 0) +
        if payAt buf 448 = 0x60 ∧ (payAt buf 451).getLsbD 2 = true then 2 else 0) := by
  have hfind := findIdx?_dsf_channels ((payAt buf 3).getLsbD 7)
    (payAt buf 448 == 0x60 && (payAt buf 451).getLsbD 2)
  simp only [Bool.and_eq_true, beq_iff_eq] at hfind
  rw [← hfind, detectProfile]
  simp only [Bool.and_eq_true, beq_iff_eq]
  rfl

/-! ### What the two commands answer (R141, R143) -/

theorem profileSelectReply_eq (o : Operands) :
    profileSelectReply o =
      if o.a ≠ 0 ∨ o.b ≠ 0 then .error .badOperand
      else if o.pay.length ≠ 6 then .error .lengthMismatch
      else (selectProfile (payAt o.pay 0).toNat (payAt o.pay 1).toNat (leNat (slice o.pay 2 4))).elim
        (.error .profileUnrecognized) fun r => .ok ⟨byte r, []⟩ := by
  simp only [profileSelectReply, operandsZero_not_iff]
  cases selectProfile (payAt o.pay 0).toNat (payAt o.pay 1).toNat (leNat (slice o.pay 2 4)) <;> rfl

theorem profileDetectReply_eq (o : Operands) :
    profileDetectReply o =
      if o.a ≠ 0 ∨ o.b ≠ 0 then .error .badOperand
      else if o.pay.length < 480 then .error .incompleteInput
      else (detectProfile o.pay).elim (.error .profileUnrecognized) fun r => .ok ⟨byte r, []⟩ := by
  simp only [profileDetectReply, operandsZero_not_iff]
  cases detectProfile o.pay <;> rfl

/-! ### A skeleton's bytes (R200, R202) -/

/-- Whether a frame holds the skeleton's bytes, block by block (R62 to R71). -/
def IsSkeleton (p : Profile) (x : Ctx) (F : List Byte) : Prop :=
  F.length = p.frameSize ∧ ∀ c s b j, c < p.C → s < p.S → b < 150 → j < 80 →
    payAt F ((c * p.S + s) * 12000 + 80 * b + j) = skeletonByte p x c s b j

/-- What FORMAT_FRAME answers is a skeleton (R200). -/
theorem isSkeleton_of_formatFrameReply {r : Nat} {p : Profile} (hr : cfg.prof[r]? = some p) {bs F : List Byte}
    (h : formatFrameReply ⟨byte r, 0, bs⟩ = .ok ⟨0, F⟩) : IsSkeleton p (ctxOf bs) F := by
  by_cases hlen : bs.length = 18
  · rw [formatFrameReply_of_length hr hlen] at h
    split at h
    · rcases formatFrame_cases p (ctxOf bs) with ⟨hpacks, -, hok⟩ | ⟨-, herr⟩
      · rw [hok] at h
        obtain rfl := congrArg Reply.rpay (Except.ok.inj h)
        refine ⟨by rw [Array.length_toList, applyWrites_size, blankFrame_size], fun c s b j hc hs hb hj => ?_⟩
        exact (payAt_toList _ _).trans (bufAt_formatWrites (List.mem_of_getElem? hr) hpacks hc hs hb hj)
      · rw [herr] at h
        cases h
    · cases h
  · rw [formatFrameReply_eq, withProfile_of_prof hr, lenOf, if_pos hlen] at h
    cases h

/-- The header pack's selector shows `dsf` (R112, R165). -/
theorem packByte_hdr_selector (p : Profile) (x : Ctx) : packByte .hdr p x 0 = if p.dsf then 0xBF else 0x3F := by
  have hbytes : packBytes .hdr p x = packEncoding .hdr p.dsf (assemblerValues .hdr p x) := rfl
  rw [packByte, hbytes, packEncoding_of_fits rfl, ← selectorOf_hdr]
  rfl

/-- The bytes of the video source pack that detection reads depend on the profile only (R175). -/
theorem packByte_videoSource {p : Profile} (hp : p ∈ cfg.prof) (x : Ctx) :
    packByte .videoSource p x 0 = 0x60 ∧
      packByte .videoSource p x 3 = 3#2 ++ BitVec.ofNat 1 p.dsf.toNat ++ BitVec.ofNat 5 p.vstype := by
  have hfits : ∀ p ∈ cfg.prof, packFits .videoSource (videoSourceList (videoSourceValues p)) = true := by decide
  have hbytes : packBytes .videoSource p x = _ :=
    packEncoding_of_isContent (isContent_videoSource (hfits p hp) 15#4 3#2) rfl (hfits p hp) p.dsf
  rw [packByte, packByte, hbytes]
  exact ⟨rfl, rfl⟩

/-- Bit 2 of `stype` shows the channels (R41, R144). -/
theorem getLsbD_stype : ∀ p ∈ cfg.prof,
    (3#2 ++ BitVec.ofNat 1 p.dsf.toNat ++ BitVec.ofNat 5 p.vstype).getLsbD 2 = decide (p.C = 2) := by decide

/-- Every id is the one that detection computes from its profile's `dsf` and channels (R41, R144). -/
theorem profile_id_eq {r : Nat} {p : Profile} (hp : cfg.prof[r]? = some p) :
    ((if p.dsf then 1 else 0) + if p.C = 2 then 2 else 0) = r := by
  rcases profile_cases hp with ⟨rfl, rfl⟩ | ⟨rfl, rfl⟩ | ⟨rfl, rfl⟩ | ⟨rfl, rfl⟩ <;> rfl

/-- Bytes 0 and 3 stand in the header block, bytes 448 and 451 in the tenth pack of the last auxiliary block of the
first segment. -/
theorem IsSkeleton.detectProfile_eq_some {r : Nat} {p : Profile} (hr : cfg.prof[r]? = some p) {x : Ctx} {F : List Byte}
    (h : IsSkeleton p x F) : detectProfile F = some r := by
  have hp : p ∈ cfg.prof := List.mem_of_getElem? hr
  have hpos : ∀ p ∈ cfg.prof, 0 < p.C ∧ 0 < p.S := by decide
  obtain ⟨hC, hS⟩ := hpos p hp
  obtain ⟨hselector, hstype⟩ := packByte_videoSource hp x
  have hfirst : ∀ b j, b < 150 → j < 80 → payAt F (80 * b + j) = skeletonByte p x 0 0 b j := fun b j hb hj => by
    simpa only [Nat.zero_mul, Nat.zero_add] using h.2 0 0 b j hC hS hb hj
  have h0 : payAt F 0 = 0x1F := hfirst 0 0 (by decide) (by decide)
  have h3 : payAt F 3 = if p.dsf then 0xBF else 0x3F :=
    (hfirst 0 3 (by decide) (by decide)).trans (packByte_hdr_selector p x)
  have h448 : payAt F 448 = 0x60 := (hfirst 5 48 (by decide) (by decide)).trans hselector
  have h451 : payAt F 451 = 3#2 ++ BitVec.ofNat 1 p.dsf.toNat ++ BitVec.ofNat 5 p.vstype :=
    (hfirst 5 51 (by decide) (by decide)).trans hstype
  have hmask : ∀ d : Bool, (if d then 0xBF else 0x3F : Byte) &&& 0x7F = 0x3F ∧
      (if d then 0xBF else 0x3F : Byte).getLsbD 7 = d := by decide
  obtain ⟨hlow, hdsf⟩ := hmask p.dsf
  rw [detectProfile_eq, h0, h3, h448, h451, getLsbD_stype p hp, hlow, hdsf, if_neg (by decide), ← profile_id_eq hr]
  simp only [true_and, decide_eq_true_eq]

/-- Behind the id of a video block the skeleton writes nothing (R71, R200). -/
theorem IsSkeleton.payAt_video {p : Profile} {x : Ctx} {F : List Byte} (h : IsSkeleton p x F) {a : Nat}
    (ha : a ∈ videoAddrs p) : payAt F a = 0xFF := by
  obtain ⟨c, s, v, j, hc, hs, hv, hj, rfl⟩ := mem_videoAddrs.1 ha
  have hwritten : writtenLen (7 + v + v / 15) = 3 := by
    rw [writtenLen, if_neg (by omega), if_neg (by omega), if_neg (by omega), if_neg (by omega)]
  rw [videoBlk_eq, Nat.add_assoc, h.2 c s (7 + v + v / 15) (3 + j) hc hs (by omega) (by omega)]
  exact skeletonByte_fill p x c s (by omega)

/-- Behind the id and the pack of an audio block the skeleton writes nothing (R70, R200). -/
theorem IsSkeleton.payAt_audio {p : Profile} {x : Ctx} {F : List Byte} (h : IsSkeleton p x F) {c a : Nat}
    (hc : c < p.C) (ha : a ∈ audioAddrs p c) : payAt F a = 0xFF := by
  obtain ⟨s, g, j, hs, hg, hj, rfl⟩ := mem_audioAddrs.1 ha
  have hwritten : writtenLen (6 + 16 * g) = 8 := by
    rw [writtenLen, if_neg (by omega), if_neg (by omega), if_neg (by omega), if_pos (by omega)]
  rw [audioBlk_eq, Nat.add_assoc, h.2 c s (6 + 16 * g) (8 + j) hc hs (by omega) (by omega)]
  exact skeletonByte_fill p x c s (by omega)

end Sys2Proof.Machine

/-! ### The statements -/

namespace Sys2Proof.Proofs

open Sys2Proof.Machine Sys2Proof.Safety

/-- Settles O18: the operand tests in their order, then the four triples. -/
theorem profileSelectRule : Obligations.ProfileSelectRule := by
  refine ⟨fun _ => rfl, fun s o => ?_⟩
  show pureCommand (profileSelectReply o) s = _
  rw [profileSelectReply_eq, selectProfile_eq]
  dsimp only
  split_ifs <;> rfl

/-- Settles O19: the operand tests in their order, then the four bytes. -/
theorem profileDetectRule : Obligations.ProfileDetectRule := by
  refine ⟨fun _ => rfl, fun s o => ?_⟩
  show pureCommand (profileDetectReply o) s = _
  rw [profileDetectReply_eq, detectProfile_eq]
  split_ifs <;> rfl

/-- Settles O27: the skeleton's bytes by block, those that detection reads and the filler behind what it writes. -/
theorem skeletonIsRecognised : Obligations.SkeletonIsRecognised := by
  intro s s' s'' r p bs F hr hexec
  have hskel : IsSkeleton p (ctxOf bs) F := isSkeleton_of_formatFrameReply hr (pureCommand_eq_okState.1 hexec)
  refine ⟨pureCommand_eq_okState.2 ?_, pureCommand_eq_okState.2 ?_, fun c hc a ha => hskel.payAt_audio hc ha⟩
  · have hlong : ∀ p ∈ cfg.prof, 480 ≤ p.frameSize := by decide
    have henough : ¬ F.length < 480 := by
      rw [hskel.1]
      exact Nat.not_lt.2 (hlong p (List.mem_of_getElem? hr))
    rw [profileDetectReply_eq, if_neg (by simp), if_neg henough, hskel.detectProfile_eq_some hr]
    rfl
  · have hfill : extractVideo p F.toArray = List.replicate (videoUnit p) 0xFF := by
      rw [extractVideo, ← videoAddrs_length p, List.map_eq_replicate_iff]
      exact fun a ha => (bufAt_toArray F a).trans (hskel.payAt_video ha)
    rw [extractVideoReply_eq, withProfile_of_prof hr, lenOf, if_neg (not_not.2 hskel.1), hfill]

end Sys2Proof.Proofs
end

section
/-! PROOFS. The codec contract: PACK_ENC and PACK_DEC as functions on the encodings of fields, and what is encoded again
after decoding. -/

namespace Sys2Proof.Machine

open Sys2Proof.Safety

/-! ### Decoding (R110, R160) -/

/-- What is read out of bits fits the widths it is read with, whatever the bits are. -/
theorem fieldsFit_decodeBits (l : List Piece) (x : Nat) : fieldsFit (fieldWidths l) (decodeBits l x) = true := by
  induction l with
  | nil => rfl
  | cons q l ih =>
    cases q with
    | const w v => exact ih
    | field w =>
      simp only [fieldWidths, decodeBits, fieldsFit, Bool.and_eq_true, decide_eq_true_eq]
      exact ⟨Nat.mod_lt _ (Nat.two_pow_pos w), ih⟩

/-- Five bytes with a selector of the map decode, to fields that fit (R160). -/
theorem decodePack_of_selector {bs : List Byte} {k : PackKind} {dsf : Bool}
    (h : kindOfSelector (payAt bs 0) = some (k, dsf)) :
    ∃ vs, decodePack bs = some (k, dsf, vs) ∧ packFits k vs = true := by
  refine ⟨_, ?_, fieldsFit_decodeBits (layout k) (beNat (slice bs 1 4))⟩
  rw [decodePack, h]
  rfl

/-! ### Encoding (R111, R112, R160) -/

/-- Decoding undoes the encoding of fields that fit (R160). -/
theorem decodePack_packEncoding {k : PackKind} {dsf : Bool} {vs : List Nat} (hdsf : dsf = true → k = .hdr)
    (hfit : packFits k vs = true) : decodePack (packEncoding k dsf vs) = some (k, dsf, vs) := by
  rw [packEncoding_of_fits hfit]
  exact decodePack_of_isContent (isContent_beBytes hfit) hfit (kindOfSelector_selectorOf k dsf hdsf)

/-- Encoding is total on fields that fit (R160). -/
theorem encodePack_of_fits {k : PackKind} {vs : List Nat} (hfit : packFits k vs = true) (dsf : Bool) :
    encodePack k dsf vs = .ok (packEncoding k dsf vs) := by
  rw [encodePack_of_length (fieldsFit_length hfit), if_pos hfit]

theorem packEncoding_shape {k : PackKind} {vs : List Nat} (hfit : packFits k vs = true) (dsf : Bool) :
    (packEncoding k dsf vs).length = 5 ∧ payAt (packEncoding k dsf vs) 0 = selectorOf k dsf :=
  (encodePack_ok (encodePack_of_fits hfit dsf)).2.2

/-- The flag `dsf` is a bit of the header pack only: the others are encoded without it (R112). -/
theorem encodePack_dsf (k : PackKind) (dsf : Bool) (vs : List Nat) :
    encodePack k (decide (k = .hdr) && dsf) vs = encodePack k dsf vs := by
  have hsel : selectorOf k (decide (k = .hdr) && dsf) = selectorOf k dsf := by cases k <;> rfl
  rw [encodePack, encodePack, hsel]

/-- What some encoding wrote is written again from what it decodes to: the constant bits are the layout's (R110). -/
theorem encodePack_of_decodePack {k k' : PackKind} {dsf dsf' : Bool} {vs vs' : List Nat} {bs : List Byte}
    (hdec : decodePack bs = some (k, dsf, vs)) (henc : encodePack k' dsf' vs' = .ok bs) :
    encodePack k dsf vs = .ok bs := by
  rw [← encodePack_dsf] at henc
  have hfit : packFits k' vs' = true := (encodePack_ok henc).1
  have hbs : packEncoding k' (decide (k' = .hdr) && dsf') vs' = bs :=
    Except.ok.inj ((encodePack_of_fits hfit _).symm.trans henc)
  have hback := decodePack_packEncoding (dsf := decide (k' = .hdr) && dsf')
    (fun h => of_decide_eq_true (Bool.and_eq_true_iff.1 h).1) hfit
  rw [hbs, hdec] at hback
  cases hback
  exact henc

/-! ### PACK_ENC and PACK_DEC on fields that fit (R161, R162) -/

theorem packEncReply_of_fits {k : PackKind} {dsf : Bool} {fields : List Byte} (hdsf : dsf = true → k = .hdr)
    (hfit : packFits k (fields.map BitVec.toNat) = true) :
    packEncReply ⟨selectorOf k dsf, 0, fields⟩ = .ok ⟨0, packEncoding k dsf (fields.map BitVec.toNat)⟩ := by
  rw [packEncReply, kindOfSelector_selectorOf k dsf hdsf]
  dsimp only
  rw [if_neg (not_not.2 rfl), encodePack_of_fits hfit]

theorem packDecReply_packEncoding {k : PackKind} {dsf : Bool} {fields : List Byte} (hdsf : dsf = true → k = .hdr)
    (hfit : packFits k (fields.map BitVec.toNat) = true) :
    packDecReply ⟨0, 0, packEncoding k dsf (fields.map BitVec.toNat)⟩ = .ok ⟨selectorOf k dsf, fields⟩ := by
  have hread : (fields.map BitVec.toNat).map byte = fields := by
    rw [List.map_map]
    exact List.map_id'' byte_byte_toNat fields
  have hlen : ¬ lenOf ⟨0, 0, packEncoding k dsf (fields.map BitVec.toNat)⟩ ≠ cfg.packLen :=
    not_not.2 (packEncoding_shape hfit dsf).1
  rw [packDecReply, if_neg (by simp [operandsZero]), if_neg hlen, decodeReply_packEncoding hdsf hfit, hread]

end Sys2Proof.Machine

/-! ### The statement -/

namespace Sys2Proof.Proofs

open Sys2Proof.Machine Sys2Proof.Safety

/-- Settles O21: an encoding decodes to its fields; of five bytes, the fields they decode to are encoded as the bytes
when some fields are. -/
theorem packCodecContract : Obligations.PackCodecContract := by
  refine ⟨fun k dsf vs hdsf hfit => ?_, fun bs hlen hsel => ?_, fun k dsf fields s s' hdsf hfit => ?_⟩
  · obtain ⟨hlen, hsel⟩ := packEncoding_shape hfit dsf
    exact ⟨_, encodePack_of_fits hfit dsf, hlen, hsel, decodePack_packEncoding hdsf hfit⟩
  · obtain ⟨⟨k, dsf⟩, hkind⟩ := Option.isSome_iff_exists.1 hsel
    obtain ⟨vs, hdec, hfit⟩ := decodePack_of_selector hkind
    exact ⟨k, dsf, vs, hdec, hfit, fun henc => ⟨k, dsf, vs, henc⟩,
      fun ⟨_, _, _, henc⟩ => encodePack_of_decodePack hdec henc⟩
  · exact ⟨_, pureCommand_eq_okState.2 (packEncReply_of_fits hdsf hfit),
      pureCommand_eq_okState.2 (packDecReply_packEncoding hdsf hfit)⟩

end Sys2Proof.Proofs
end

section
/-! PROOFS. The drop-frame invariant: what the counting rule keeps from label to label, and the timecode day. -/

namespace Sys2Proof.Machine

open Sys2Proof.Safety

/-! ### From one label to the next (R168) -/

theorem tcLabel_zero {p : Profile} (hp : p ∈ cfg.prof) : tcLabel p 0 = ⟨0, 0, 0, 0⟩ :=
  (countLabel_eq_tcLabel hp 0).symm

theorem tcLabel_succ {p : Profile} (hp : p ∈ cfg.prof) (n : Nat) :
    tcLabel p (n + 1) = nextLabel p (tcLabel p n) := by
  rw [← countLabel_eq_tcLabel hp, ← countLabel_eq_tcLabel hp, countLabel]

theorem tcLabel_f_lt {p : Profile} (hp : p ∈ cfg.prof) (n : Nat) : (tcLabel p n).f < p.ltc :=
  Nat.mod_lt _ (Nat.zero_lt_two.trans (ltc_of_mem p hp).1)

/-- Frame numbers 0 and 1 do not stand at a minute boundary unless the minute is a multiple of 10 (R168). -/
def SkipsPair (p : Profile) (l : Label) : Prop := p.drop = true → l.s = 0 → l.m % 10 ≠ 0 → 2 ≤ l.f

/-- Counting within a second moves the frame number up, the next second is not second 0, and a new minute begins behind
the skipped pair. -/
theorem nextLabel_skipsPair {p : Profile} {l : Label} (h : SkipsPair p l) : SkipsPair p (nextLabel p l) := by
  intro hdrop hsec hmin
  by_cases hf : l.f + 1 < p.ltc
  · rw [nextLabel_frame hf] at hsec hmin ⊢
    exact (h hdrop hsec hmin).trans (Nat.le_succ _)
  by_cases hs : l.s + 1 < 60
  · rw [nextLabel_second hf hs] at hsec
    cases hsec
  · rw [nextLabel_minute hf hs] at hmin ⊢
    exact (if_pos ⟨hdrop, hmin⟩).ge

theorem tcLabel_skipsPair {p : Profile} (hp : p ∈ cfg.prof) (n : Nat) : SkipsPair p (tcLabel p n) := by
  induction n with
  | zero =>
    rw [tcLabel_zero hp]
    exact fun _ _ hmin => absurd rfl hmin
  | succ n ih =>
    rw [tcLabel_succ hp]
    exact nextLabel_skipsPair ih

/-- The frame number advances by 1 modulo the divisor, or by 3 across a skipped pair (R168). -/
theorem nextLabel_advances {p : Profile} (hltc : 2 < p.ltc) {l : Label} (hlt : l.f < p.ltc) :
    (nextLabel p l).f = (l.f + 1) % p.ltc ∨
      (p.drop = true ∧ (nextLabel p l).f = (l.f + 3) % p.ltc ∧ (nextLabel p l).s = 0 ∧
        (nextLabel p l).m % 10 ≠ 0) := by
  by_cases hf : l.f + 1 < p.ltc
  · rw [nextLabel_frame hf]
    exact .inl (Nat.mod_eq_of_lt hf).symm
  have hlast : l.f + 1 = p.ltc := by omega
  have hone : (l.f + 1) % p.ltc = 0 := hlast ▸ Nat.mod_self _
  have hthree : (l.f + 3) % p.ltc = 2 := by
    rw [show l.f + 3 = p.ltc + 2 by omega, Nat.add_mod_left, Nat.mod_eq_of_lt hltc]
  by_cases hs : l.s + 1 < 60
  · rw [nextLabel_second hf hs]
    exact .inl hone.symm
  rw [nextLabel_minute hf hs, hone, hthree]
  by_cases hskip : p.drop = true ∧ (l.m + 1) % 60 % 10 ≠ 0
  · exact .inr ⟨hskip.1, if_pos hskip, rfl, hskip.2⟩
  · exact .inl (if_neg hskip)

/-! ### The timecode day (R168) -/

/-- The frames of a timecode day: 144 spans of 17982 frames with the drop-frame correction. -/
def dayFrames (p : Profile) : Nat := if p.drop then 2589408 else 86400 * p.ltc

/-- With the labels it skips, a day counts 86400 seconds of `ltc` labels. -/
theorem labelNumber_add_day {p : Profile} (hltc : p.drop = true → p.ltc = 30) (n : Nat) :
    labelNumber p (n + dayFrames p) = labelNumber p n + 86400 * p.ltc := by
  cases hdrop : p.drop with
  | true =>
    have hspans : (n + 2589408) / 17982 = n / 17982 + 144 ∧ (n + 2589408) % 17982 = n % 17982 := by omega
    simp only [labelNumber, dayFrames, hdrop, hltc hdrop, if_true, hspans]
    omega
  | false => simp only [labelNumber, dayFrames, hdrop, Bool.false_eq_true, if_false]

/-- The label of a number repeats after 24 hours. -/
theorem labelOf_add_day {p : Profile} (hpos : 0 < p.ltc) (N : Nat) :
    labelOf p (N + 86400 * p.ltc) = labelOf p N := by
  simp only [labelOf, Nat.add_mul_div_right _ _ hpos, Nat.add_mul_mod_self_right, Label.mk.injEq]
  exact ⟨by omega, by omega, by omega, trivial⟩

theorem tcLabel_add_day {p : Profile} (hp : p ∈ cfg.prof) (n : Nat) : tcLabel p (n + dayFrames p) = tcLabel p n := by
  obtain ⟨hltc, hdrop⟩ := ltc_of_mem p hp
  rw [tcLabel_eq, tcLabel_eq, labelNumber_add_day hdrop, labelOf_add_day (Nat.zero_lt_two.trans hltc)]

end Sys2Proof.Machine

/-! ### The statement -/

namespace Sys2Proof.Proofs

open Sys2Proof.Machine Sys2Proof.Safety

/-- Settles O24: the first three properties are those of the counting rule, the day that of the closed form. -/
theorem dropFrameInvariant : Obligations.DropFrameInvariant := by
  intro p hp n
  refine ⟨tcLabel_skipsPair hp n, tcLabel_f_lt hp n, ?_, tcLabel_add_day hp n, ?_⟩
  · rw [tcLabel_succ hp]
    exact nextLabel_advances (ltc_of_mem p hp).1 (tcLabel_f_lt hp n)
  · have hday := tcLabel_add_day hp 0
    rwa [Nat.zero_add, tcLabel_zero hp] at hday

end Sys2Proof.Proofs
end

section
/-! PROOFS. The packs the assembler writes: which assembler values fit their fields, and the bytes of each kind. -/

namespace Sys2Proof.Machine

open Sys2Proof.Safety

/-! ### Assembler values that fit (R163, R178) -/

/-- The range of what a kind's assembler values read of the context, where they need one (R170, R172, R173, R176). -/
def CtxFits (x : Ctx) : PackKind → Prop
  | .audioSource => x.afreq = 0 ∧ x.aquant ≤ 7
  | .videoControl => x.aspect ≤ 7
  | .audioRecDate | .audioRecTime | .videoRecDate | .videoRecTime => dateInRange x.date = true
  | .hdr | .tc | .audioControl | .videoSource | .nopack => True

theorem packFits_of_makePack_isOk {k : PackKind} {p : Profile} {x : Ctx} (h : (makePack k p x).isOk = true) :
    packFits k (assemblerValues k p x) = true := by
  cases hm : makePack k p x with
  | error e =>
    rw [hm] at h
    cases h
  | ok bs => exact (encodePack_ok hm).1

/-- A kind's values fit as those of a context that is in range throughout and agrees where the kind reads it. -/
theorem packFits_assemblerValues {p : Profile} (hp : p ∈ cfg.prof) {x : Ctx} {k : PackKind} (h : CtxFits x k) :
    packFits k (assemblerValues k p x) = true := by
  have hmade : ∀ y : Ctx, dateInRange y.date = true → y.aspect ≤ 7 → y.aquant ≤ 7 →
      (k = .audioSource → y.afreq = 0) → packFits k (assemblerValues k p y) = true :=
    fun y hdate haspect hquant hfreq => packFits_of_makePack_isOk (makePack_isOk hp hdate haspect hquant k hfreq)
  have hseven : 0 ≤ 7 := Nat.zero_le 7
  cases k with
  | audioSource => exact hmade { x with aspect := 0, date := defaultDate } rfl hseven h.2 fun _ => h.1
  | videoControl => exact hmade { x with aquant := 0, date := defaultDate } rfl h hseven nofun
  | audioRecDate | audioRecTime | videoRecDate | videoRecTime =>
    exact hmade { x with aspect := 0, aquant := 0 } h hseven hseven nofun
  | hdr | tc | audioControl | videoSource | nopack =>
    exact hmade { x with aspect := 0, aquant := 0, date := defaultDate } rfl hseven hseven nofun

/-- A pack whose assembler values fit is its selector and the four bytes that hold them (R178). -/
theorem makePack_of_isContent {k : PackKind} {p : Profile} {x : Ctx} {cs : List Nat} {bytes bytes' : List Byte}
    (hfit : packFits k (assemblerValues k p x) = true) (h : IsContent k (assemblerValues k p x) cs bytes)
    (hcs : recast (layout k) cs = layout k) (hbytes : bytes = bytes') :
    makePack k p x = .ok (selectorOf k p.dsf :: bytes') := by
  rw [makePack, encodePack_of_fits hfit, packEncoding_of_isContent h hcs hfit, hbytes]

/-! ### The bytes of each kind (R165 to R177) -/

section Kinds

variable {p : Profile} (hp : p ∈ cfg.prof) (x : Ctx)
include hp

/-- The byte of the header pack's selector, with `dsf` in bit 7 (R112). -/
theorem makePack_hdr :
    makePack .hdr p x = .ok [BitVec.ofNat 1 p.dsf.toNat ++ 0x3F#7, 0xF8, 0x78, 0x78, 0x78] := by
  have hfit := packFits_assemblerValues hp (x := x) (k := .hdr) trivial
  have hsel : selectorOf .hdr p.dsf = BitVec.ofNat 1 p.dsf.toNat ++ 0x3F#7 := by cases p.dsf <;> rfl
  rw [← hsel]
  exact makePack_of_isContent hfit (isContent_hdr hfit 0b11111#5 0b1111#4 0b1111#4 0b1111#4) rfl (by simp [hdrValues])

/-- Tens and units of the label (R166). -/
theorem makePack_tc :
    makePack .tc p x = .ok [0x13,
      0#1 ++ BitVec.ofNat 1 p.drop.toNat ++ BitVec.ofNat 2 ((tcLabel p x.n).f / 10)
        ++ BitVec.ofNat 4 ((tcLabel p x.n).f % 10),
      1#1 ++ BitVec.ofNat 3 ((tcLabel p x.n).s / 10) ++ BitVec.ofNat 4 ((tcLabel p x.n).s % 10),
      1#1 ++ BitVec.ofNat 3 ((tcLabel p x.n).m / 10) ++ BitVec.ofNat 4 ((tcLabel p x.n).m % 10),
      0b11#2 ++ BitVec.ofNat 2 ((tcLabel p x.n).h / 10) ++ BitVec.ofNat 4 ((tcLabel p x.n).h % 10)] := by
  have hfit := packFits_assemblerValues hp (x := x) (k := .tc) trivial
  exact makePack_of_isContent hfit (isContent_tc hfit) rfl (by simp [tcValues, tens, units])

theorem makePack_audioSource (hfreq : x.afreq = 0) (hquant : x.aquant ≤ 7) :
    makePack .audioSource p x = .ok [0x50, 0b01#2 ++ BitVec.ofNat 6 (samplesOf p x.n - p.mins.getD 0 0), 0x00,
      0b11#2 ++ BitVec.ofNat 1 p.dsf.toNat ++ BitVec.ofNat 5 (if x.naudio = 2 then 2 else 0),
      0b10#2 ++ 0#3 ++ BitVec.ofNat 3 x.aquant] := by
  have hfit := packFits_assemblerValues hp (x := x) (k := .audioSource) ⟨hfreq, hquant⟩
  exact makePack_of_isContent hfit (isContent_audioSource hfit 1#1 1#1) rfl
    (by simp [audioSourceValues, delta, hfreq])

/-- At another frequency than 48 kHz the sample count lies beyond the field (R170). -/
theorem makePack_audioSource_refused (hpos : x.afreq ≠ 0) (hle : x.afreq ≤ 2) :
    makePack .audioSource p x = .error .fieldRange := by
  have hnot := makePack_audioSource_not_ok hp hpos hle
  have hlen : (assemblerValues .audioSource p x).length = (widthsOf .audioSource).length := rfl
  rw [makePack, encodePack_of_length hlen] at hnot ⊢
  refine if_neg fun hfit => ?_
  rw [if_pos hfit] at hnot
  cases hnot

theorem makePack_audioControl : makePack .audioControl p x = .ok [0x51, 0x1C, 0xCF, 0xA0, 0xFF] := by
  have hfit := packFits_assemblerValues hp (x := x) (k := .audioControl) trivial
  exact makePack_of_isContent hfit (isContent_audioControl hfit 1#1) rfl (by simp [audioControlValues])

theorem makePack_videoSource :
    makePack .videoSource p x =
      .ok [0x60, 0xFF, 0xFF, 0b11#2 ++ BitVec.ofNat 1 p.dsf.toNat ++ BitVec.ofNat 5 p.vstype, 0xFF] := by
  have hfit := packFits_assemblerValues hp (x := x) (k := .videoSource) trivial
  exact makePack_of_isContent hfit (isContent_videoSource hfit 0b1111#4 0b11#2) rfl (by simp [videoSourceValues])

theorem makePack_videoControl (haspect : x.aspect ≤ 7) :
    makePack .videoControl p x = .ok [0x61, 0x3F, 0b11001#5 ++ BitVec.ofNat 3 x.aspect, 0xFC, 0xFF] := by
  have hfit := packFits_assemblerValues hp (x := x) (k := .videoControl) haspect
  exact makePack_of_isContent hfit (isContent_videoControl hfit 0b111111#6 0b11001#5 0b1100#4 0xFF#8) rfl
    (by simp [videoControlValues])

/-- The date stands alike in the audio and the video pack (R172). -/
theorem makePack_recDate (hdate : dateInRange x.date = true) {k : PackKind}
    (hk : k = .audioRecDate ∨ k = .videoRecDate) :
    makePack k p x = .ok [cfg.selector k, 0xFF,
      0b11#2 ++ BitVec.ofNat 2 (x.date.dd.toNat / 10) ++ BitVec.ofNat 4 (x.date.dd.toNat % 10),
      0#3 ++ BitVec.ofNat 1 (x.date.mo.toNat / 10) ++ BitVec.ofNat 4 (x.date.mo.toNat % 10),
      BitVec.ofNat 4 (x.date.yy.toNat / 10) ++ BitVec.ofNat 4 (x.date.yy.toNat % 10)] := by
  have hfit := packFits_assemblerValues hp (x := x) (k := .audioRecDate) hdate
  have hcontent := isContent_recDate hfit 0b11#2
  rcases hk with rfl | rfl
  · exact makePack_of_isContent (k := .audioRecDate) hfit hcontent rfl (by simp [recDateValues, tens, units])
  · exact makePack_of_isContent (k := .videoRecDate) hfit hcontent rfl (by simp [recDateValues, tens, units])

/-- The time stands alike in the audio and the video pack (R173). -/
theorem makePack_recTime (hdate : dateInRange x.date = true) {k : PackKind}
    (hk : k = .audioRecTime ∨ k = .videoRecTime) :
    makePack k p x = .ok [cfg.selector k, 0xFF,
      1#1 ++ BitVec.ofNat 3 (x.date.ss.toNat / 10) ++ BitVec.ofNat 4 (x.date.ss.toNat % 10),
      1#1 ++ BitVec.ofNat 3 (x.date.mi.toNat / 10) ++ BitVec.ofNat 4 (x.date.mi.toNat % 10),
      0b11#2 ++ BitVec.ofNat 2 (x.date.hh.toNat / 10) ++ BitVec.ofNat 4 (x.date.hh.toNat % 10)] := by
  have hfit := packFits_assemblerValues hp (x := x) (k := .audioRecTime) hdate
  have hcontent := isContent_recTime hfit 0b11#2 1#1 1#1 0b11#2
  rcases hk with rfl | rfl
  · exact makePack_of_isContent (k := .audioRecTime) hfit hcontent rfl (by simp [recTimeValues, tens, units])
  · exact makePack_of_isContent (k := .videoRecTime) hfit hcontent rfl (by simp [recTimeValues, tens, units])

end Kinds

/-- The sentinel has no fields (R177). -/
theorem makePack_nopack (p : Profile) (x : Ctx) : makePack .nopack p x = .ok [0xFF, 0xFF, 0xFF, 0xFF, 0xFF] :=
  makePack_of_isContent (k := .nopack) rfl (isContent_nopack 0xFF 0xFF 0xFF 0xFF) rfl rfl

end Sys2Proof.Machine

/-! ### The statement -/

namespace Sys2Proof.Proofs

open Sys2Proof.Machine Sys2Proof.Safety

/-- Settles O25: the bytes kind by kind. -/
theorem assemblerPacks : Obligations.AssemblerPacks := by
  intro p hp x
  refine ⟨makePack_hdr hp x, makePack_tc hp x, fun hfreq hquant => ?_, fun hfreq => ?_, makePack_audioControl hp x,
    makePack_videoSource hp x, makePack_videoControl hp x, makePack_nopack p x, fun hdate => ?_⟩
  · exact makePack_audioSource hp x hfreq (hquant.trans (by decide))
  · exact makePack_audioSource_refused hp x (by omega) (by omega)
  · exact ⟨makePack_recDate hp x hdate (.inl rfl), makePack_recDate hp x hdate (.inr rfl),
      makePack_recTime hp x hdate (.inl rfl), makePack_recTime hp x hdate (.inr rfl)⟩

end Sys2Proof.Proofs
end

section
/-! PROOFS. What the injectors and the extractors of the frame assembler do to a frame's bytes: the video round trip,
INJECT_AUDIO slot by slot, EXTRACT_PACK at its fixed offsets, and the ids, which nothing examines. -/

namespace Sys2Proof.Machine

open Sys2Proof.Safety

/-! ### The video round trip (R205, R210) -/

theorem extractVideoReply_of_length {r : Nat} {p : Profile} (hp : cfg.prof[r]? = some p) {F : List Byte}
    (hF : F.length = p.frameSize) :
    extractVideoReply ⟨byte r, 0, F⟩ = .ok ⟨0, extractVideo p F.toArray⟩ := by
  rw [extractVideoReply_eq, withProfile_of_prof hp, lenOf, if_neg (not_not.2 hF)]

/-- Injection writes byte `i` of the unit where extraction reads it. -/
theorem extractVideo_injectVideo {p : Profile} (hp : p ∈ cfg.prof) {F : Buffer} {V : List Byte}
    (hF : F.size = p.frameSize) (hV : V.length = videoUnit p) : extractVideo p (injectVideo p F V) = V := by
  have hlen : (extractVideo p (injectVideo p F V)).length = V.length := (extractVideo_length p _).trans hV.symm
  refine List.ext_getElem hlen fun i hi hi' => ?_
  have hunit : i < videoUnit p := hV ▸ hi'
  have hbyte : payAt (extractVideo p (injectVideo p F V)) i = payAt V i :=
    (payAt_extractVideo _ hunit).trans (bufAt_injectVideo_videoPayAddr hp hF hV hunit)
  rwa [payAt, payAt, List.getD_eq_getElem _ _ hi, List.getD_eq_getElem _ _ hi'] at hbyte

/-! ### What INJECT_AUDIO writes (R206, R230, R233) -/

/-- The writes of an audio injection: byte `i` of a live slot receives the other byte of its word (R76). -/
theorem mem_shuffleWrites {p : Profile} {c size a : Nat} {P : Buffer} {v : Byte} :
    (a, v) ∈ shuffleWrites p c P size ↔ ∃ s g k i, slotInRange p s g k ∧ 2 * sidx p s g k < size ∧ i < 2 ∧
      a = slotAddr p c s g k + i ∧ v = bufAt P (2 * sidx p s g k + (1 - i)) := by
  constructor
  · intro hw
    obtain ⟨⟨s, g, k⟩, hslot, hw⟩ := List.mem_flatMap.1 hw
    split at hw
    · next hlive =>
      have hsize : 2 * sidx p s g k < size := of_decide_eq_true hlive
      rcases List.mem_pair.1 hw with heq | heq <;> obtain ⟨rfl, rfl⟩ := Prod.mk.inj heq
      · exact ⟨s, g, k, 0, mem_slots.1 hslot, hsize, by decide, (Nat.add_zero _).symm, rfl⟩
      · exact ⟨s, g, k, 1, mem_slots.1 hslot, hsize, by decide, rfl, rfl⟩
    · cases hw
  · rintro ⟨s, g, k, i, hslot, hsize, hi, rfl, rfl⟩
    refine List.mem_flatMap.2 ⟨(s, g, k), mem_slots.2 hslot, ?_⟩
    have hlive : slotLive p size s g k = true := decide_eq_true hsize
    rw [if_pos hlive, List.mem_pair]
    rcases Nat.le_one_iff_eq_zero_or_eq_one.1 (Nat.lt_succ_iff.1 hi) with rfl | rfl
    · exact .inl (by rw [Nat.add_zero])
    · exact .inr rfl

/-- A byte of a slot lies in that slot only: slots are the byte pairs of the audio payloads. -/
theorem slotAddr_add_injective {p : Profile} {c s g k i s' g' k' i' : Nat} (h : slotInRange p s g k)
    (h' : slotInRange p s' g' k') (hi : i < 2) (hi' : i' < 2)
    (heq : slotAddr p c s g k + i = slotAddr p c s' g' k' + i') : s = s' ∧ g = g' ∧ k = k' ∧ i = i' := by
  obtain ⟨-, hg, hk⟩ := h
  obtain ⟨-, hg', hk'⟩ := h'
  rw [slotAddr_eq, slotAddr_eq] at heq
  have hs : s = s' := by omega
  subst hs
  have hblock : g = g' := by omega
  subst hblock
  have hslot : k = k' := by omega
  exact ⟨rfl, rfl, hslot, by omega⟩

theorem slotAddr_add_lt_frameSize {p : Profile} (hp : p ∈ cfg.prof) {c s g k i : Nat} (hc : c < p.C)
    (h : slotInRange p s g k) (hi : i < 2) : slotAddr p c s g k + i < p.frameSize := by
  obtain ⟨hs, hg, hk⟩ := h
  refine audioAddrs_lt_frameSize hp hc (mem_audioAddrs.2 ⟨s, g, 2 * k + i, hs, hg, by omega, ?_⟩)
  rw [slotAddr_eq, audioBlk_eq, Nat.add_assoc _ (2 * k)]

/-- A live slot receives the two bytes of its word, swapped (R76, R233). -/
theorem bufAt_shuffle16_slotAddr {p : Profile} (hp : p ∈ cfg.prof) {F : Buffer} (P : Buffer)
    (hF : F.size = p.frameSize) {c size s g k i : Nat} (hc : c < p.C) (h : slotInRange p s g k)
    (hlive : 2 * sidx p s g k < size) (hi : i < 2) :
    bufAt (shuffle16 p F c P size) (slotAddr p c s g k + i) = bufAt P (2 * sidx p s g k + (1 - i)) := by
  refine bufAt_applyWrites_of_forall_mem
    (List.mem_map_of_mem (mem_shuffleWrites.2 ⟨s, g, k, i, h, hlive, hi, rfl, rfl⟩)) ?_
    (hF ▸ slotAddr_add_lt_frameSize hp hc h hi)
  rintro ⟨a, v⟩ hw rfl
  obtain ⟨s', g', k', i', h', -, hi', ha, rfl⟩ := mem_shuffleWrites.1 hw
  obtain ⟨rfl, rfl, rfl, rfl⟩ := slotAddr_add_injective h h' hi hi' ha
  rfl

/-- An address in no live slot keeps its byte. -/
theorem bufAt_shuffle16_of_no_slot {p : Profile} (F P : Buffer) {c size a : Nat}
    (h : ∀ s g k, slotInRange p s g k → 2 * sidx p s g k < size →
      a ≠ slotAddr p c s g k ∧ a ≠ slotAddr p c s g k + 1) :
    bufAt (shuffle16 p F c P size) a = bufAt F a := by
  refine bufAt_applyWrites_of_not_mem fun hmem => ?_
  obtain ⟨⟨a, v⟩, hw, rfl⟩ := List.mem_map.1 hmem
  obtain ⟨s, g, k, i, hslot, hlive, hi, ha, -⟩ := mem_shuffleWrites.1 hw
  obtain ⟨hfirst, hsecond⟩ := h s g k hslot hlive
  omega

/-! ### What INJECT_AUDIO answers (R206) -/

theorem injectAudioReply_of_profileAt_none {o : Operands} (h : profileAt o.a = none) :
    injectAudioReply o = .error .badOperand := by
  rw [injectAudioReply, h]

/-- The operand tests of INJECT_AUDIO for a profile of the table, in their order, and its answer. -/
theorem injectAudioReply_eq {r : Nat} {p : Profile} (hp : cfg.prof[r]? = some p) (b : Half) (pay : List Byte) :
    injectAudioReply ⟨byte r, b, pay⟩ =
      if b.toNat ≥ p.C then .error .badOperand
      else if pay.length < p.frameSize ∨ (pay.length - p.frameSize) % 2 = 1 ∨
          pay.length - p.frameSize > 2 * audioWords p then .error .lengthMismatch
      else .ok ⟨0, (shuffle16 p (pay.take p.frameSize).toArray b.toNat (pay.drop p.frameSize).toArray
        (pay.length - p.frameSize)).toList⟩ := by
  simp only [injectAudioReply, profileAt_byte hp, lenOf, ne_eq, Nat.mod_two_ne_zero]
  by_cases hshort : pay.length < p.frameSize
  · simp only [hshort, true_or, if_true]
  · simp only [hshort, false_or, if_false]

/-- A frame and an even number of PCM bytes behind it that fit the slots are the two parts of the payload (R206). -/
theorem injectAudioReply_of_length {r : Nat} {p : Profile} (hp : cfg.prof[r]? = some p) {b : Half}
    {F P : List Byte} (hb : b.toNat < p.C) (hF : F.length = p.frameSize) (heven : P.length % 2 = 0)
    (hfit : P.length ≤ 2 * audioWords p) :
    injectAudioReply ⟨byte r, b, F ++ P⟩ =
      .ok ⟨0, (shuffle16 p F.toArray b.toNat P.toArray P.length).toList⟩ := by
  have hlen : (F ++ P).length - p.frameSize = P.length := by
    rw [List.length_append, hF, Nat.add_sub_cancel_left]
  have hwhole : ¬ (F ++ P).length < p.frameSize := by
    rw [List.length_append, hF]
    omega
  rw [injectAudioReply_eq hp, if_neg (by omega), if_neg (by omega), hlen, List.take_left' hF, List.drop_left' hF]

/-! ### EXTRACT_PACK (R215, R216) -/

/-- The offset of the pack that a kind byte names, in numbers (R216). -/
def packAddr (b : Half) : Option Nat :=
  if b = 0x50 then some 4323 else if b = 0x51 then some 5603
  else if b = 0x60 then some 448 else if b = 0x61 then some 453 else none

/-- The kind byte of one of the four kinds is its selector. -/
theorem fixedOffset_eq (b : Half) : fixedOffset b = (packAddr b).map fun a => (a, b.setWidth 8) := by
  have hnumbers : fixedOffset b =
      if b = 0x50 then some (4323, 0x50) else if b = 0x51 then some (5603, 0x51)
      else if b = 0x60 then some (448, 0x60) else if b = 0x61 then some (453, 0x61) else none := rfl
  rw [hnumbers, packAddr]
  split_ifs with has hac hvs hvc
  · rw [has]; rfl
  · rw [hac]; rfl
  · rw [hvs]; rfl
  · rw [hvc]; rfl
  · rfl

theorem packAddr_le {b : Half} {a : Nat} (h : packAddr b = some a) : a ≤ 5603 := by
  unfold packAddr at h
  split_ifs at h <;> cases h <;> decide

/-- An operand `A` below 4 names a profile, with the frame size of R41. -/
theorem profileAt_frameSize {a : Byte} (h : ¬ a.toNat ≥ 4) :
    ∃ p, profileAt a = some p ∧
      p.frameSize = if a = 0 then 120000 else if a = 1 then 144000 else if a = 2 then 240000 else 288000 := by
  have hcases : ∀ r < 4, ∃ p, profileAt (byte r) = some p ∧ p.frameSize =
      if byte r = 0 then 120000 else if byte r = 1 then 144000 else if byte r = 2 then 240000 else 288000 := by
    decide
  simpa only [byte_byte_toNat] using hcases a.toNat (by omega)

theorem extractPackReply_of_packAddr_none {o : Operands} (h : packAddr o.b = none) :
    extractPackReply o = .error .badOperand := by
  rw [extractPackReply, fixedOffset_eq, h]
  cases profileAt o.a <;> rfl

theorem extractPackReply_of_profileAt_none {o : Operands} (h : profileAt o.a = none) :
    extractPackReply o = .error .badOperand := by
  rw [extractPackReply, h]

/-- The tests of EXTRACT_PACK on a payload, in their order, and the five bytes it answers. -/
theorem extractPackReply_eq {o : Operands} {p : Profile} {a : Nat} (hp : profileAt o.a = some p)
    (ha : packAddr o.b = some a) (hlen : a + 5 ≤ p.frameSize) :
    extractPackReply o =
      if o.pay.length ≠ p.frameSize then .error .lengthMismatch
      else if payAt o.pay a ≠ o.b.setWidth 8 then .error .packMismatch
      else .ok ⟨0, [payAt o.pay a, payAt o.pay (a + 1), payAt o.pay (a + 2), payAt o.pay (a + 3),
        payAt o.pay (a + 4)]⟩ := by
  have htests : extractPackReply o =
      if o.pay.length ≠ p.frameSize then .error .lengthMismatch
      else if payAt o.pay a ≠ o.b.setWidth 8 then .error .packMismatch
      else .ok ⟨0, slice o.pay a 5⟩ := by
    rw [extractPackReply, hp, fixedOffset_eq, ha]
    rfl
  rw [htests]
  by_cases hframe : o.pay.length = p.frameSize
  · rw [slice_eq_map_payAt (hframe ▸ hlen)]
    rfl
  · rw [if_pos hframe, if_pos hframe]

end Sys2Proof.Machine

/-! ### The statements -/

namespace Sys2Proof.Proofs

open Sys2Proof.Machine Sys2Proof.Safety

/-- Settles O30: extraction reads back what injection wrote, address by address. -/
theorem videoRoundTrip : Obligations.VideoRoundTrip := by
  intro s s' r p F V hr hF hV
  have hp : p ∈ cfg.prof := List.mem_of_getElem? hr
  have hframe : (injectVideo p F.toArray V).toList.length = p.frameSize := by
    rw [Array.length_toList, injectVideo_size]
    exact hF
  have hextract := extractVideoReply_of_length hr hframe
  rw [Array.toArray_toList, extractVideo_injectVideo hp hF hV] at hextract
  exact ⟨_, pureCommand_eq_okState.2 (injectVideoReply_of_length hr hF hV), pureCommand_eq_okState.2 hextract⟩

/-- Settles O36: what a shuffle writes slot by slot, and the operand tests in their order. -/
theorem injectAudioRule : Obligations.InjectAudioRule := by
  refine ⟨fun _ => rfl, fun s r p hr => ⟨?_, fun b pay hb hlen => ?_, fun b pay hb => ?_, fun o ho => ?_⟩⟩
  · intro c F P hc hF heven hfit
    have hp : p ∈ cfg.prof := List.mem_of_getElem? hr
    have hchannels : p.C ≤ 2 := channels_le_two p hp
    have hb : (BitVec.ofNat 16 c).toNat = c := Nat.mod_eq_of_lt (by omega)
    have hreply := injectAudioReply_of_length (b := BitVec.ofNat 16 c) hr (hb.symm ▸ hc) hF heven hfit
    rw [hb] at hreply
    refine ⟨_, pureCommand_eq_okState.2 hreply, ?_, fun sg g k hslot hlive => ?_, fun a ha => ?_⟩
    · rw [Array.length_toList, shuffle16_size]
      exact hF
    · have hbyte := fun i => bufAt_shuffle16_slotAddr (i := i) hp P.toArray hF hc hslot hlive
      rw [payAt_toList, payAt_toList, ← bufAt_toArray, ← bufAt_toArray]
      exact ⟨by simpa using hbyte 0 (by decide), by simpa using hbyte 1 (by decide)⟩
    · rw [payAt_toList, bufAt_shuffle16_of_no_slot _ _ ha, bufAt_toArray]
  · show pureCommand (injectAudioReply ⟨byte r, b, pay⟩) s = _
    rw [injectAudioReply_eq hr, if_neg (Nat.not_le.2 hb), if_pos hlen]
    rfl
  · show pureCommand (injectAudioReply ⟨byte r, b, pay⟩) s = _
    rw [injectAudioReply_eq hr, if_pos hb]
    rfl
  · show pureCommand (injectAudioReply o) s = _
    rw [injectAudioReply_of_profileAt_none (profileAt_eq_none.2 ho)]
    rfl

/-- Settles O9: every id is presented alike, and its fields are not read. -/
theorem idsAreNotExamined : Obligations.IdsAreNotExamined := fun _ =>
  ⟨fun _ => rfl, fun _ => rfl, fun _ => rfl, fun _ => rfl, fun _ => rfl, fun _ => rfl⟩

/-- Settles O33: the kind byte, then the profile, then the payload's length and its selector. -/
theorem extractPackRule : Obligations.ExtractPackRule := by
  refine ⟨fun _ => rfl, fun s o => ?_⟩
  show pureCommand (extractPackReply o) s = _
  dsimp only
  split
  next hnone =>
    rw [extractPackReply_of_packAddr_none hnone]
    rfl
  next a hsome =>
    by_cases hprofile : o.a.toNat ≥ 4
    · rw [if_pos hprofile, extractPackReply_of_profileAt_none (profileAt_eq_none.2 hprofile)]
      rfl
    · obtain ⟨p, hp, hsize⟩ := profileAt_frameSize hprofile
      have hle : a ≤ 5603 := packAddr_le hsome
      have hinside : a + 5 ≤ p.frameSize := by
        rw [hsize]
        split_ifs <;> omega
      rw [if_neg hprofile, extractPackReply_eq hp hsome hinside, ← hsize]
      split_ifs <;> rfl

end Sys2Proof.Proofs
end

section
/-! PROOFS. The audio de-shuffle word by word: EXTRACT_AUDIO of a linear and of a nonlinear frame, and the 16-bit round
trip. -/

namespace Sys2Proof.Machine

open Sys2Proof.Safety

/-! ### PCM filled word by word (R77, R234, R245) -/

/-- The two bytes of a word assignment, low byte first; none where the word lies outside the buffer. -/
def wordWrites (size : Nat) (e : Nat × Byte × Byte) : List (Nat × Byte) :=
  if 2 * e.1 < size then [(2 * e.1, e.2.1), (2 * e.1 + 1, e.2.2)] else []

/-- A PCM buffer, zero before the words of a list are written into it. -/
def fillWords (size : Nat) (words : List (Nat × Byte × Byte)) : Buffer :=
  applyWrites (Array.replicate size 0) (words.flatMap (wordWrites size))

theorem mem_flatMap_wordWrites {size a : Nat} {v : Byte} {words : List (Nat × Byte × Byte)} :
    (a, v) ∈ words.flatMap (wordWrites size) ↔ ∃ w lo hi, (w, lo, hi) ∈ words ∧ 2 * w < size ∧
      (a = 2 * w ∧ v = lo ∨ a = 2 * w + 1 ∧ v = hi) := by
  simp only [List.mem_flatMap, Prod.exists]
  refine exists₃_congr fun w lo hi => and_congr_right fun _ => ?_
  by_cases hfit : 2 * w < size <;> simp [wordWrites, hfit]

theorem bufAt_replicate_zero (size a : Nat) : bufAt (Array.replicate size 0) a = 0 := by
  by_cases ha : a < size <;> simp [bufAt, ha]

/-- A word that the list assigns once holds the bytes assigned to it. -/
theorem bufAt_fillWords_of_mem {size w : Nat} {lo hi : Byte} {words : List (Nat × Byte × Byte)}
    (hmem : (w, lo, hi) ∈ words) (honce : ∀ b, (w, b) ∈ words → b = (lo, hi)) (hfit : 2 * w + 1 < size) :
    bufAt (fillWords size words) (2 * w) = lo ∧ bufAt (fillWords size words) (2 * w + 1) = hi := by
  have hbyte : ∀ a v, a < size → (a, v) ∈ words.flatMap (wordWrites size) →
      (∀ v', (a, v') ∈ words.flatMap (wordWrites size) → v' = v) → bufAt (fillWords size words) a = v := by
    intro a v ha hw hsame
    refine bufAt_applyWrites_of_forall_mem (List.mem_map_of_mem (f := Prod.fst) hw) ?_ (by simpa using ha)
    rintro ⟨a', v'⟩ hw' rfl
    exact hsame v' hw'
  constructor
  · refine hbyte _ _ (by omega) (mem_flatMap_wordWrites.2 ⟨w, lo, hi, hmem, by omega, .inl ⟨rfl, rfl⟩⟩) fun v' hv' => ?_
    obtain ⟨w', lo', hi', hmem', -, ⟨ha, rfl⟩ | ⟨ha, rfl⟩⟩ := mem_flatMap_wordWrites.1 hv'
    · obtain rfl : w = w' := by omega
      exact congrArg Prod.fst (honce _ hmem')
    · omega
  · refine hbyte _ _ hfit (mem_flatMap_wordWrites.2 ⟨w, lo, hi, hmem, by omega, .inr ⟨rfl, rfl⟩⟩) fun v' hv' => ?_
    obtain ⟨w', lo', hi', hmem', -, ⟨ha, rfl⟩ | ⟨ha, rfl⟩⟩ := mem_flatMap_wordWrites.1 hv'
    · omega
    · obtain rfl : w = w' := by omega
      exact congrArg Prod.snd (honce _ hmem')

/-- A word that the list does not assign stays zero. -/
theorem bufAt_fillWords_of_not_mem {size w : Nat} {words : List (Nat × Byte × Byte)} (h : ∀ b, (w, b) ∉ words) :
    bufAt (fillWords size words) (2 * w) = 0 ∧ bufAt (fillWords size words) (2 * w + 1) = 0 := by
  have hbyte : ∀ a, a = 2 * w ∨ a = 2 * w + 1 → bufAt (fillWords size words) a = 0 := by
    intro a ha
    refine (bufAt_applyWrites_of_not_mem fun hmem => ?_).trans (bufAt_replicate_zero size a)
    obtain ⟨⟨a, v⟩, hw, rfl⟩ := List.mem_map.1 hmem
    obtain ⟨w', lo, hi, hmem', -, hplace⟩ := mem_flatMap_wordWrites.1 hw
    obtain rfl : w = w' := by omega
    exact h _ hmem'
  exact ⟨hbyte _ (.inl rfl), hbyte _ (.inr rfl)⟩

/-! ### The words of a linear frame (R234, R236) -/

/-- The word that slot `k` of an audio block gives: the wire's bytes swapped, the silence code as zero. -/
def slotWord (p : Profile) (F : Buffer) (c s g k : Nat) : Nat × Byte × Byte :=
  (sidx p s g k,
    (unmute16 (bufAt F (slotAddr p c s g k)) (bufAt F (slotAddr p c s g k + 1))).swap)

/-- The words of a channel, slot by slot. -/
def linearWords (p : Profile) (F : Buffer) (c : Nat) : List (Nat × Byte × Byte) :=
  (slots p).map fun x => slotWord p F c x.1 x.2.1 x.2.2

theorem deshuffle16_eq_fillWords (p : Profile) (F : Buffer) (c size : Nat) :
    deshuffle16 p F c size = fillWords size (linearWords p F c) := by
  rw [deshuffle16, fillWords, linearWords, List.flatMap_map]
  refine congrArg _ (List.flatMap_congr fun x _ => ?_)
  by_cases hlive : 2 * sidx p x.1 x.2.1 x.2.2 < size <;> simp [wordWrites, slotWord, slotLive, hlive]

theorem mem_linearWords {p : Profile} {F : Buffer} {c : Nat} {e : Nat × Byte × Byte} :
    e ∈ linearWords p F c ↔ ∃ s g k, slotInRange p s g k ∧ slotWord p F c s g k = e := by
  simp only [linearWords, List.mem_map, Prod.exists, mem_slots]

/-- Silence code or not: each byte of an unmuted word is zero or itself (R236). -/
theorem unmute16_eq (hi lo : Byte) :
    unmute16 hi lo = (if hi = 0x80 ∧ lo = 0x00 then 0 else hi, if hi = 0x80 ∧ lo = 0x00 then 0 else lo) := by
  have hnumbers : unmute16 hi lo = if hi = 0x80 ∧ lo = 0x00 then (0, 0) else (hi, lo) := rfl
  rw [hnumbers]
  split <;> rfl

/-- Every live slot gives its word, no two slots the same one. -/
theorem bufAt_deshuffle16_sidx {p : Profile} (hp : p ∈ cfg.prof) (F : Buffer) (c : Nat) {size s g k : Nat}
    (h : slotInRange p s g k) (hfit : 2 * sidx p s g k + 1 < size) :
    bufAt (deshuffle16 p F c size) (2 * sidx p s g k) = (slotWord p F c s g k).2.1 ∧
      bufAt (deshuffle16 p F c size) (2 * sidx p s g k + 1) = (slotWord p F c s g k).2.2 := by
  rw [deshuffle16_eq_fillWords]
  refine bufAt_fillWords_of_mem (mem_linearWords.2 ⟨s, g, k, h, rfl⟩) (fun b hb => ?_) hfit
  obtain ⟨s', g', k', h', heq⟩ := mem_linearWords.1 hb
  obtain ⟨hword, rfl⟩ := Prod.mk.inj heq
  obtain ⟨rfl, rfl, rfl⟩ := sidx_injective hp h' h hword
  rfl

/-- Beyond the words of the slots a stream is zero. -/
theorem bufAt_deshuffle16_of_ge {p : Profile} (hp : p ∈ cfg.prof) (F : Buffer) (c size : Nat) {w : Nat}
    (hw : p.S * 9 * 36 ≤ w) :
    bufAt (deshuffle16 p F c size) (2 * w) = 0 ∧ bufAt (deshuffle16 p F c size) (2 * w + 1) = 0 := by
  rw [deshuffle16_eq_fillWords]
  refine bufAt_fillWords_of_not_mem fun b hb => ?_
  obtain ⟨s, g, k, h, heq⟩ := mem_linearWords.1 hb
  have hlt := sidx_lt hp h
  have hword : sidx p s g k = w := congrArg Prod.fst heq
  omega

/-! ### The words of a nonlinear frame (R240, R242, R245) -/

/-- The word that triple `t` of an audio block of stream `i` gives: the left sample stands where segment `h` has its
words, the right one where the segment half a channel later has them. -/
def tripleWord (p : Profile) (F : Buffer) (i h g t : Nat) (right : Bool) : Nat × Byte × Byte :=
  let a := audioBlk p 0 (i * halfSegs p + h) g + 8 + 3 * t
  let codes := unpack12 (bufAt F a) (bufAt F (a + 1)) (bufAt F (a + 2))
  (sidx p (if right then h + halfSegs p else h) g t, sampleBytes (decode12 (if right then codes.2 else codes.1)))

/-- The words of a stream, triple by triple. -/
def nonlinearWords (p : Profile) (F : Buffer) (i : Nat) : List (Nat × Byte × Byte) :=
  (triples p i).flatMap fun x =>
    [tripleWord p F i (x.1 % halfSegs p) x.2.1 x.2.2 false, tripleWord p F i (x.1 % halfSegs p) x.2.1 x.2.2 true]

/-- A channel has an even number of segments (R41). -/
theorem segments_eq_two_halves : ∀ p ∈ cfg.prof, p.S = 2 * halfSegs p := by decide

/-- The triples of a stream lie in its half of the segments. -/
theorem mem_triples {p : Profile} (hp : p ∈ cfg.prof) {i s g t : Nat} (hi : i < 2) :
    (s, g, t) ∈ triples p i ↔ ∃ h < halfSegs p, s = i * halfSegs p + h ∧ g < 9 ∧ t < 24 := by
  have hS := segments_eq_two_halves p hp
  have hrange : (s, g, t) ∈ triples p i ↔ s < p.S ∧ (if s < halfSegs p then 0 else 1) = i ∧ g < 9 ∧ t < 24 := by
    simp only [triples, List.mem_flatMap, List.mem_range]
    constructor
    · rintro ⟨s', hs, hmem⟩
      by_cases hhalf : (if s' < halfSegs p then 0 else 1) = i
      · simp only [if_pos hhalf, List.mem_flatMap, List.mem_map, List.mem_range, Prod.mk.injEq] at hmem
        obtain ⟨g, hg, t, ht, rfl, rfl, rfl⟩ := hmem
        exact ⟨hs, hhalf, hg, ht⟩
      · rw [if_neg hhalf] at hmem
        cases hmem
    · rintro ⟨hs, hhalf, hg, ht⟩
      refine ⟨s, hs, ?_⟩
      rw [if_pos hhalf]
      exact List.mem_flatMap.2 ⟨g, List.mem_range.2 hg, List.mem_map_of_mem (List.mem_range.2 ht)⟩
  rw [hrange, hS]
  constructor
  · rintro ⟨hs, hhalf, hg, ht⟩
    refine ⟨s - i * halfSegs p, ?_⟩
    interval_cases i <;> split at hhalf <;> omega
  · rintro ⟨h, hh, rfl, hg, ht⟩
    interval_cases i <;> split <;> omega

theorem mem_nonlinearWords {p : Profile} (hp : p ∈ cfg.prof) {F : Buffer} {i : Nat} (hi : i < 2)
    {e : Nat × Byte × Byte} :
    e ∈ nonlinearWords p F i ↔
      ∃ h g t right, h < halfSegs p ∧ g < 9 ∧ t < 24 ∧ tripleWord p F i h g t right = e := by
  have hplace : ∀ h < halfSegs p, (i * halfSegs p + h) % halfSegs p = h := fun h hh => by
    rw [Nat.mul_add_mod_self_right, Nat.mod_eq_of_lt hh]
  simp only [nonlinearWords, List.mem_flatMap, Prod.exists, mem_triples hp hi, List.mem_pair]
  constructor
  · rintro ⟨s, g, t, ⟨h, hh, rfl, hg, ht⟩, heq⟩
    rw [hplace h hh] at heq
    exact heq.elim (fun heq => ⟨h, g, t, false, hh, hg, ht, heq.symm⟩) fun heq => ⟨h, g, t, true, hh, hg, ht, heq.symm⟩
  · rintro ⟨h, g, t, right, hh, hg, ht, heq⟩
    refine ⟨_, g, t, ⟨h, hh, rfl, hg, ht⟩, ?_⟩
    rw [hplace h hh]
    cases right with
    | false => exact .inl heq.symm
    | true => exact .inr heq.symm

theorem deshuffle12_eq_fillWords {p : Profile} (hp : p ∈ cfg.prof) (F : Buffer) {i : Nat} (hi : i < 2) (size : Nat) :
    deshuffle12 p F i size = fillWords size (nonlinearWords p F i) := by
  rw [deshuffle12, fillWords, nonlinearWords, List.flatMap_assoc, deshuffle12Writes]
  refine congrArg _ (List.flatMap_congr ?_)
  rintro ⟨s, g, t⟩ hx
  obtain ⟨h, hh, rfl, -, -⟩ := (mem_triples hp hi).1 hx
  rw [List.flatMap_cons, List.flatMap_singleton, Nat.mul_add_mod_self_right, Nat.mod_eq_of_lt hh]
  rfl

/-- Every triple gives its two words, no two triples the same one. -/
theorem bufAt_deshuffle12_tripleWord {p : Profile} (hp : p ∈ cfg.prof) (F : Buffer) {i : Nat} (hi : i < 2)
    {size h g t : Nat} (right : Bool) (hh : h < halfSegs p) (hg : g < 9) (ht : t < 24)
    (hfit : 2 * (tripleWord p F i h g t right).1 + 1 < size) :
    bufAt (deshuffle12 p F i size) (2 * (tripleWord p F i h g t right).1) = (tripleWord p F i h g t right).2.1 ∧
      bufAt (deshuffle12 p F i size) (2 * (tripleWord p F i h g t right).1 + 1) =
        (tripleWord p F i h g t right).2.2 := by
  have hS := segments_eq_two_halves p hp
  have hslot : ∀ {h g t : Nat} (right : Bool), h < halfSegs p → g < 9 → t < 24 →
      slotInRange p (if right then h + halfSegs p else h) g t := fun right hh hg ht => by
    refine ⟨?_, hg, by omega⟩
    split <;> omega
  rw [deshuffle12_eq_fillWords hp F hi]
  refine bufAt_fillWords_of_mem ((mem_nonlinearWords hp hi).2 ⟨h, g, t, right, hh, hg, ht, rfl⟩) (fun b hb => ?_) hfit
  obtain ⟨h', g', t', right', hh', hg', ht', heq⟩ := (mem_nonlinearWords hp hi).1 hb
  obtain ⟨hword, rfl⟩ := Prod.mk.inj heq
  obtain ⟨hseg, rfl, rfl⟩ := sidx_injective hp (hslot right' hh' hg' ht') (hslot right hh hg ht) hword
  obtain ⟨rfl, rfl⟩ : h' = h ∧ right' = right := by
    cases right' <;> cases right <;> simp at hseg ⊢ <;> omega
  rfl

/-- A word that no triple gives is zero. -/
theorem bufAt_deshuffle12_of_no_triple {p : Profile} (hp : p ∈ cfg.prof) (F : Buffer) {i : Nat} (hi : i < 2)
    (size : Nat) {w : Nat}
    (hw : ∀ h g t right, h < halfSegs p → g < 9 → t < 24 → w ≠ (tripleWord p F i h g t right).1) :
    bufAt (deshuffle12 p F i size) (2 * w) = 0 ∧ bufAt (deshuffle12 p F i size) (2 * w + 1) = 0 := by
  rw [deshuffle12_eq_fillWords hp F hi]
  refine bufAt_fillWords_of_not_mem fun b hb => ?_
  obtain ⟨h, g, t, right, hh, hg, ht, heq⟩ := (mem_nonlinearWords hp hi).1 hb
  exact hw h g t right hh hg ht (congrArg Prod.fst heq).symm

/-! ### The streams of a frame, one after the other (R244) -/

/-- A byte string, read byte by byte. -/
theorem map_range_payAt {bs : List Byte} {n : Nat} (h : bs.length = n) : (List.range n).map (payAt bs) = bs := by
  subst h
  simpa [slice] using (slice_eq_map_payAt (bs := bs) (a := 0) (n := bs.length) (by rw [Nat.zero_add])).symm

/-- Chunks of one length, one after the other, are read by chunk number and place. -/
theorem payAt_flatMap_range {n size : Nat} {f : Nat → List Byte} (hlen : ∀ i < n, (f i).length = size) {i a : Nat}
    (hi : i < n) (ha : a < size) : payAt ((List.range n).flatMap f) (i * size + a) = payAt (f i) a := by
  rw [List.flatMap_congr fun i hi => (map_range_payAt (hlen i (List.mem_range.1 hi))).symm, flatMap_range_map_range,
    payAt, List.getD_eq_getElem _ _ (by simpa using segmentNumber_lt hi ha), List.getElem_map, List.getElem_range,
    Nat.mul_add_mod_self_right, Nat.mod_eq_of_lt ha, Nat.add_comm, Nat.add_mul_div_right _ _ (by omega),
    Nat.div_eq_of_lt ha, Nat.zero_add]

@[simp] theorem streamPcm_length (p : Profile) (F : Buffer) (ap : AudioParams) (i : Nat) :
    (streamPcm p F ap i).length = ap.size := by
  rw [streamPcm, Array.length_toList]
  split
  · exact deshuffle16_size p F i ap.size
  · exact deshuffle12_size p F i ap.size

theorem allPcm_length (p : Profile) (F : Buffer) (ap : AudioParams) :
    (allPcm p F ap).length = ap.ns * ap.size := by
  simp [allPcm, List.length_flatMap]

theorem payAt_allPcm (p : Profile) (F : Buffer) (ap : AudioParams) {i a : Nat} (hi : i < ap.ns) (ha : a < ap.size) :
    payAt (allPcm p F ap) (i * ap.size + a) = payAt (streamPcm p F ap i) a :=
  payAt_flatMap_range (fun i _ => streamPcm_length p F ap i) hi ha

theorem streamPcm_linear (p : Profile) (F : Buffer) {ap : AudioParams} (h : ap.qu = 0) (i : Nat) :
    streamPcm p F ap i = (deshuffle16 p F i ap.size).toList := by
  rw [streamPcm, if_pos h]

theorem streamPcm_nonlinear (p : Profile) (F : Buffer) {ap : AudioParams} (h : ap.qu ≠ 0) (i : Nat) :
    streamPcm p F ap i = (deshuffle12 p F i ap.size).toList := by
  rw [streamPcm, if_neg h]

theorem slice_allPcm (p : Profile) (F : Buffer) (ap : AudioParams) {i : Nat} (hi : i < ap.ns) :
    slice (allPcm p F ap) (i * ap.size) ap.size = streamPcm p F ap i := by
  have hinside : i * ap.size + ap.size ≤ (allPcm p F ap).length := by
    rw [allPcm_length, ← Nat.succ_mul]
    exact Nat.mul_le_mul_right _ hi
  rw [slice_eq_map_payAt hinside, ← map_range_payAt (streamPcm_length p F ap i)]
  exact List.map_congr_left fun a ha => payAt_allPcm p F ap hi (List.mem_range.1 ha)

/-- A 16-bit linear frame has a second stream only on a second channel (R243). -/
theorem audioParams_linear {p : Profile} {F : List Byte} (hpack : payAt F 4323 = 0x50)
    (hquant : (payAt F 4327).toNat % 8 = 0) (hfreq : (payAt F 4327).toNat / 8 % 8 ≤ 2) :
    audioParams p F.toArray = .ok (some
      ⟨if (payAt F 4326).toNat % 32 = 2 ∧ p.C = 2 then 2 else 1, (payAt F 4327).toNat / 8 % 8, 0,
        4 * (p.mins.getD ((payAt F 4327).toNat / 8 % 8) 0 + (payAt F 4324).toNat % 64)⟩) := by
  rw [audioParams_eq, if_neg (not_not.2 hpack), hquant, if_neg (by decide), if_neg (Nat.not_lt.2 hfreq)]
  simp

/-- A 12-bit nonlinear frame has a second stream at 32 kHz (R243). -/
theorem audioParams_nonlinear {p : Profile} {F : List Byte} (hpack : payAt F 4323 = 0x50)
    (hquant : (payAt F 4327).toNat % 8 = 1) (hfreq : (payAt F 4327).toNat / 8 % 8 ≤ 2) :
    audioParams p F.toArray = .ok (some
      ⟨if (payAt F 4327).toNat / 8 % 8 = 2 then 2 else 1, (payAt F 4327).toNat / 8 % 8, 1,
        4 * (p.mins.getD ((payAt F 4327).toNat / 8 % 8) 0 + (payAt F 4324).toNat % 64)⟩) := by
  rw [audioParams_eq, if_neg (not_not.2 hpack), hquant, if_neg (by decide), if_neg (Nat.not_lt.2 hfreq)]
  simp

/-- EXTRACT_AUDIO of a frame with audio: the header and the streams (R244). -/
theorem exec_extractAudio_of_audioParams {r : Nat} {p : Profile} (hp : cfg.prof[r]? = some p) {F : List Byte}
    (hF : F.length = p.frameSize) {ap : AudioParams} (hap : audioParams p F.toArray = .ok (some ap)) (s : State) :
    exec (.extractAudio ⟨byte r, 0, F⟩) s = .next (okState s (byte ap.ns)
      ([byte ap.ns, byte ap.smp, byte ap.qu, 0] ++ leBytes 4 ap.size ++ allPcm p F.toArray ap)) :=
  pureCommand_eq_okState.2 (extractAudioReply_of_length hp hF hap)

/-! ### The 16-bit round trip (R235) -/

/-- Whether the live slots of a channel hold the words of a PCM byte string, swapped (R233). -/
def HoldsPcm (p : Profile) (F : Buffer) (c : Nat) (P : List Byte) : Prop :=
  ∀ s g k, slotInRange p s g k → 2 * sidx p s g k < P.length → ∀ i < 2,
    bufAt F (slotAddr p c s g k + i) = payAt P (2 * sidx p s g k + (1 - i))

theorem holdsPcm_shuffle16 {p : Profile} (hp : p ∈ cfg.prof) {F : Buffer} (hF : F.size = p.frameSize) {c : Nat}
    (hc : c < p.C) (P : List Byte) : HoldsPcm p (shuffle16 p F c P.toArray P.length) c P :=
  fun _ _ _ hslot hlive _ hi => (bufAt_shuffle16_slotAddr hp P.toArray hF hc hslot hlive hi).trans (bufAt_toArray P _)

/-- A shuffle into another channel leaves the words of a channel. -/
theorem HoldsPcm.shuffle16_of_ne {p : Profile} {F : Buffer} {c c' : Nat} {P : List Byte} (h : HoldsPcm p F c P)
    (hne : c' ≠ c) (P' : Buffer) (size : Nat) : HoldsPcm p (shuffle16 p F c' P' size) c P := by
  intro s g k hslot hlive i hi
  obtain ⟨hs, hg, hk⟩ := hslot
  have hmem : slotAddr p c s g k + i ∈ audioAddrs p c :=
    mem_audioAddrs.2 ⟨s, g, 2 * k + i, hs, hg, by omega, by rw [slotAddr_eq, audioBlk_eq, Nat.add_assoc _ (2 * k)]⟩
  rw [bufAt_shuffle16_of_not_mem _ _ _ (audioAddrs_disjoint hne hmem)]
  exact h s g k ⟨hs, hg, hk⟩ hlive i hi

theorem sameButMuted_iff {P Q : List Byte} :
    sameButMuted P Q ↔ Q.length = P.length ∧ ∀ w, 2 * w + 1 < P.length →
      if payAt P (2 * w) = 0x00 ∧ payAt P (2 * w + 1) = 0x80 then payAt Q (2 * w) = 0 ∧ payAt Q (2 * w + 1) = 0
      else payAt Q (2 * w) = payAt P (2 * w) ∧ payAt Q (2 * w + 1) = payAt P (2 * w + 1) := Iff.rfl

/-- A channel that holds the words of a PCM byte string gives it back, but for the silence code (R234, R236). -/
theorem HoldsPcm.sameButMuted {p : Profile} (hp : p ∈ cfg.prof) {F : Buffer} {c : Nat} {P : List Byte}
    (h : HoldsPcm p F c P) (hfit : P.length ≤ 2 * audioWords p) :
    sameButMuted P (deshuffle16 p F c P.length).toList := by
  refine sameButMuted_iff.2 ⟨by rw [Array.length_toList, deshuffle16_size], fun w hw => ?_⟩
  have hword : w < p.S * 9 * 36 := by
    rw [audioWords] at hfit
    omega
  obtain ⟨s, g, k, hslot, rfl⟩ := sidx_surjective hp hword
  obtain ⟨hlo, hhi⟩ := bufAt_deshuffle16_sidx hp F c hslot hw
  have hwire := h s g k hslot (by omega)
  have hfirst : bufAt F (slotAddr p c s g k) = payAt P (2 * sidx p s g k + 1) := by
    simpa using hwire 0 (by decide)
  have hsecond : bufAt F (slotAddr p c s g k + 1) = payAt P (2 * sidx p s g k) := by
    simpa using hwire 1 (by decide)
  rw [← payAt_toList] at hlo hhi
  rw [hlo, hhi]
  simp only [slotWord, unmute16_eq, hfirst, hsecond, Prod.swap]
  split
  · next hmuted => exact ⟨if_pos hmuted.symm, if_pos hmuted.symm⟩
  · next hmuted => exact ⟨if_neg (mt And.symm hmuted), if_neg (mt And.symm hmuted)⟩

/-- Whole words none of which is the silence code come back as they were. -/
theorem eq_of_sameButMuted {P Q : List Byte} (h : Safety.sameButMuted P Q) (heven : P.length % 2 = 0)
    (hno : noMuteWord P) : Q = P := by
  obtain ⟨hlen, hwords⟩ := h
  refine List.ext_getElem hlen fun a ha ha' => ?_
  have hword := hwords (a / 2) (by omega)
  rw [if_neg (hno (a / 2) (by omega))] at hword
  rw [← List.getD_eq_getElem Q 0 ha, ← List.getD_eq_getElem P 0 ha']
  obtain hplace | hplace : a = 2 * (a / 2) ∨ a = 2 * (a / 2) + 1 := by omega
  · rw [hplace]
    exact hword.1
  · rw [hplace]
    exact hword.2

end Sys2Proof.Machine

/-! ### The statements -/

namespace Sys2Proof.Proofs

open Sys2Proof.Machine Sys2Proof.Safety

/-- Settles O37: the streams are de-shuffled channels, read slot by slot. -/
theorem extractAudioLinear : Obligations.ExtractAudioLinear := by
  intro s r p F hr hF smp size ns hpack hquant hsmp
  have hp : p ∈ cfg.prof := List.mem_of_getElem? hr
  have hparams : audioParams p F.toArray = .ok (some ⟨ns, smp, 0, size⟩) := audioParams_linear hpack hquant hsmp
  have hstream : ∀ i < ns, ∀ a < size, payAt (allPcm p F.toArray ⟨ns, smp, 0, size⟩) (i * size + a) =
      bufAt (deshuffle16 p F.toArray i size) a := fun i hi a ha => by
    rw [payAt_allPcm p F.toArray ⟨ns, smp, 0, size⟩ hi ha, streamPcm_linear _ _ rfl, payAt_toList]
  have heven : ∀ w, 2 * w < size → 2 * w + 1 < size := by omega
  refine ⟨_, exec_extractAudio_of_audioParams hr hF hparams s, allPcm_length _ _ _, fun i hi =>
    ⟨fun sg g k hslot hlive => ?_, fun w hw hbeyond => ?_⟩⟩
  · obtain ⟨hlo, hhi⟩ := bufAt_deshuffle16_sidx hp F.toArray i hslot (heven _ hlive)
    dsimp only
    rw [hstream i hi _ hlive, Nat.add_assoc, hstream i hi _ (heven _ hlive), hlo, hhi]
    simp only [slotWord, unmute16_eq, bufAt_toArray, Prod.swap, and_self]
  · obtain ⟨hlo, hhi⟩ := bufAt_deshuffle16_of_ge hp F.toArray i size hbeyond
    rw [hstream i hi _ hw, Nat.add_assoc, hstream i hi _ (heven _ hw)]
    exact ⟨hlo, hhi⟩

/-- Settles O38: the streams are the words of their triples, left and right. -/
theorem extractAudioNonlinear : Obligations.ExtractAudioNonlinear := by
  intro s r p F hr hF smp size ns wl wr sample hpack hquant hsmp
  have hp : p ∈ cfg.prof := List.mem_of_getElem? hr
  have hparams : audioParams p F.toArray = .ok (some ⟨ns, smp, 1, size⟩) :=
    audioParams_nonlinear hpack hquant hsmp
  have hstream : ∀ i < ns, ∀ a < size, payAt (allPcm p F.toArray ⟨ns, smp, 1, size⟩) (i * size + a) =
      bufAt (deshuffle12 p F.toArray i size) a := fun i hi a ha => by
    rw [payAt_allPcm p F.toArray ⟨ns, smp, 1, size⟩ hi ha, streamPcm_nonlinear _ _ one_ne_zero, payAt_toList]
  have heven : ∀ w, 2 * w < size → 2 * w + 1 < size := by omega
  have htwo : ns ≤ 2 := by
    show (if smp = 2 then 2 else 1) ≤ 2
    split <;> omega
  refine ⟨_, exec_extractAudio_of_audioParams hr hF hparams s, allPcm_length _ _ _, fun i hi =>
    ⟨fun h g t hh hg ht => ?_, fun w hw hno => ?_⟩⟩
  · have hword : ∀ right, 2 * (tripleWord p F.toArray i h g t right).1 < size →
        payAt (allPcm p F.toArray ⟨ns, smp, 1, size⟩) (i * size + 2 * (tripleWord p F.toArray i h g t right).1) =
          (tripleWord p F.toArray i h g t right).2.1 ∧
        payAt (allPcm p F.toArray ⟨ns, smp, 1, size⟩) (i * size + 2 * (tripleWord p F.toArray i h g t right).1 + 1) =
          (tripleWord p F.toArray i h g t right).2.2 := fun right hlive => by
      rw [hstream i hi _ hlive, Nat.add_assoc, hstream i hi _ (heven _ hlive)]
      exact bufAt_deshuffle12_tripleWord hp F.toArray (hi.trans_le htwo) right hh hg ht (heven _ hlive)
    simp only [tripleWord, bufAt_toArray] at hword
    exact ⟨hword false, hword true⟩
  · rw [hstream i hi _ hw, Nat.add_assoc, hstream i hi _ (heven _ hw)]
    refine bufAt_deshuffle12_of_no_triple hp F.toArray (hi.trans_le htwo) size fun h g t right hh hg ht => ?_
    cases right with
    | false => exact (hno h g t hh hg ht).1
    | true => exact (hno h g t hh hg ht).2

/-- Settles O40: the shuffled channel holds the words, and every word has a slot. -/
theorem audioRoundTrip : Obligations.AudioRoundTrip := by
  rintro p hp c F P hc hF heven ⟨d, hd, hlen⟩ Q
  have hslots := dist_le_slots p hp d hd
  have hfit : P.length ≤ 2 * audioWords p := by
    rw [audioWords]
    omega
  have hsame : sameButMuted P Q.toList := (holdsPcm_shuffle16 hp hF hc P).sameButMuted hp hfit
  refine ⟨fun hno => ?_, deshuffle16_size _ _ _ _, fun w hw => ?_⟩
  · rw [← eq_of_sameButMuted hsame heven hno]
  · rw [← payAt_toList, ← payAt_toList]
    exact (sameButMuted_iff.1 hsame).2 w hw

end Sys2Proof.Proofs
end

section
/-! PROOFS. From a mux session to a demux session: what stands in an assembled frame, what FEED_FRAME reads there, and on
which paths TRY_EMIT_FRAME hands the frame over. -/

namespace Sys2Proof.Machine

open Sys2Proof.Safety

/-! ### The bytes that a skeleton writes are no payload (R72, R202) -/

theorem writtenLen_videoBlk (v : Nat) : writtenLen (7 + v + v / 15) = 3 := by
  rw [writtenLen, if_neg (by omega), if_neg (by omega), if_neg (by omega), if_neg (by omega)]

theorem writtenLen_audioBlk (g : Nat) : writtenLen (6 + 16 * g) = 8 := by
  rw [writtenLen, if_neg (by omega), if_neg (by omega), if_neg (by omega), if_pos (by omega)]

section Metadata

variable {p : Profile} {s b j : Nat} (c : Nat) (hs : s < p.S) (hb : b < 150) (hj : j < writtenLen b)
include hs hb hj

theorem metadata_not_mem_videoAddrs : (c * p.S + s) * 12000 + 80 * b + j ∉ videoAddrs p := by
  intro hmem
  obtain ⟨c', s', v, j', -, hs', hv, hj', heq⟩ := mem_videoAddrs.1 hmem
  rw [videoBlk_eq, Nat.add_assoc _ 3] at heq
  obtain ⟨-, -, rfl, rfl⟩ :=
    frameAddr_injective hs hs' hb (by omega) (hj.trans (writtenLen_lt_block b)) (by omega) heq
  rw [writtenLen_videoBlk] at hj
  omega

theorem metadata_not_mem_audioAddrs (c' : Nat) : (c * p.S + s) * 12000 + 80 * b + j ∉ audioAddrs p c' := by
  intro hmem
  obtain ⟨s', g, j', hs', hg, hj', heq⟩ := mem_audioAddrs.1 hmem
  rw [audioBlk_eq, Nat.add_assoc _ 8] at heq
  obtain ⟨-, -, rfl, rfl⟩ :=
    frameAddr_injective hs hs' hb (by omega) (hj.trans (writtenLen_lt_block b)) (by omega) heq
  rw [writtenLen_audioBlk] at hj
  omega

end Metadata

/-! ### Audio in several channels (R267) -/

/-- Stream `i` shuffled into channel `i`, for the first `n` streams. -/
def shuffleAll (p : Profile) (n size : Nat) (A : Nat → List Byte) (F : Buffer) : Buffer :=
  (List.range n).foldl (fun F i => shuffle16 p F i (A i).toArray size) F

theorem shuffleAll_succ (p : Profile) (n size : Nat) (A : Nat → List Byte) (F : Buffer) :
    shuffleAll p (n + 1) size A F = shuffle16 p (shuffleAll p n size A F) n (A n).toArray size := by
  rw [shuffleAll, List.range_succ, List.foldl_append]
  rfl

@[simp] theorem shuffleAll_size (p : Profile) (n size : Nat) (A : Nat → List Byte) (F : Buffer) :
    (shuffleAll p n size A F).size = F.size := by
  induction n with
  | zero => rfl
  | succ n ih => rw [shuffleAll_succ, shuffle16_size, ih]

/-- Only audio payloads are written. -/
theorem bufAt_shuffleAll_of_not_mem {p : Profile} {a : Nat} (h : ∀ c, a ∉ audioAddrs p c) (n size : Nat)
    (A : Nat → List Byte) (F : Buffer) : bufAt (shuffleAll p n size A F) a = bufAt F a := by
  induction n with
  | zero => rfl
  | succ n ih => rw [shuffleAll_succ, bufAt_shuffle16_of_not_mem _ _ _ (h n), ih]

/-- Each channel holds its stream, whatever the streams after it are. -/
theorem holdsPcm_shuffleAll {p : Profile} (hp : p ∈ cfg.prof) {n size : Nat} (hn : n ≤ p.C) {A : Nat → List Byte}
    (hlen : ∀ i < n, (A i).length = size) {F : Buffer} (hF : F.size = p.frameSize) :
    ∀ i < n, HoldsPcm p (shuffleAll p n size A F) i (A i) := by
  induction n with
  | zero => exact fun i hi => absurd hi (Nat.not_lt_zero i)
  | succ n ih =>
    intro i hi
    have hsize : (shuffleAll p n size A F).size = p.frameSize := (shuffleAll_size p n size A F).trans hF
    rw [shuffleAll_succ]
    by_cases hlast : i = n
    · subst hlast
      rw [← hlen i hi]
      rw [← hlen i hi] at hsize
      exact holdsPcm_shuffle16 hp hsize (by omega) (A i)
    · exact (ih (by omega) (fun i hi => hlen i (by omega)) i (by omega)).shuffle16_of_ne (Ne.symm hlast) _ _

/-! ### The frame that a mux session assembles (R267) -/

/-- The PCM bytes of stream `i` that the current frame takes (R265). -/
def queuedPcm (s : State) (i : Nat) : List Byte := (fifoOf s i).take (req (sessionProfile s) s.frames.toNat)

/-- What an assembled frame says of its audio: the session's streams at 48 kHz, 16-bit linear, and a sample count of
what it took (R170, R243); a session without streams says nothing. -/
def sessionAudio (s : State) : AudioParams :=
  ⟨s.naudio.toNat, 0, 0, if s.naudio.toNat = 0 then 0 else req (sessionProfile s) s.frames.toNat⟩

theorem sessionAudio_size {s : State} {i : Nat} (hi : i < s.naudio.toNat) :
    (sessionAudio s).size = req (sessionProfile s) s.frames.toNat := if_neg (by omega)

/-- The frame as a buffer: the skeleton, the video unit, then the streams. -/
def frameBuffer (s : State) (F0 : Buffer) (V : List Byte) : Buffer :=
  shuffleAll (sessionProfile s) s.naudio.toNat (req (sessionProfile s) s.frames.toNat) (queuedPcm s)
    (injectVideo (sessionProfile s) F0 V)

theorem frameFrom_eq (s : State) (F0 : Buffer) (V : List Byte) : frameFrom s F0 V = (frameBuffer s F0 V).toList := rfl

theorem queuedPcm_length {s : State} (h : audioReady s (fun _ => 0)) :
    ∀ i < s.naudio.toNat, (queuedPcm s i).length = req (sessionProfile s) s.frames.toNat :=
  fun i hi => List.length_take_of_le (h i hi)

/-- A sample count of the session lies in the profile's sequence (R147). -/
theorem samplesOf_mem {p : Profile} (hp : p ∈ cfg.prof) (n : Nat) : samplesOf p n ∈ p.dist := by
  have hlen : p.dist.length = cfg.seqLen := (cfg_wellFormed.2.1 p hp).1
  have hlt : n % cfg.seqLen < p.dist.length := by
    rw [hlen]
    exact Nat.mod_lt n (by decide)
  rw [samplesOf, List.getD_eq_getElem _ _ hlt]
  exact List.getElem_mem hlt

/-- What a frame takes of a stream has a slot for every word (R7 (c)). -/
theorem req_le_audioWords {p : Profile} (hp : p ∈ cfg.prof) (n : Nat) : req p n ≤ 2 * audioWords p := by
  have hslots := dist_le_slots p hp _ (samplesOf_mem hp n)
  rw [req, audioWords]
  omega

/-- The low part of a concatenation is read back by its width. -/
theorem toNat_append_mod {m n : Nat} (x : BitVec m) (y : BitVec n) : (x ++ y).toNat % 2 ^ n = y.toNat := by
  rw [toNat_append_eq, Nat.mul_add_mod_self_right, Nat.mod_eq_of_lt y.isLt]

/-- The least sample count and the difference the pack shows make up the sample count (R7 (b), R170). -/
theorem mins_add_delta {p : Profile} (hp : p ∈ cfg.prof) (n : Nat) :
    p.mins.getD 0 0 + (samplesOf p n - p.mins.getD 0 0) = samplesOf p n ∧
      samplesOf p n - p.mins.getD 0 0 < 64 := by
  obtain ⟨hleast, hdelta⟩ := (cfg_wellFormed.2.1 p hp).2 _ (samplesOf_mem hp n)
  exact ⟨Nat.add_sub_cancel' hleast, Nat.lt_succ_of_le hdelta⟩

/-- The fields of the audio source pack that extraction reads, at 48 kHz and 16-bit linear (R170, R243). -/
theorem packByte_audioSource {p : Profile} (hp : p ∈ cfg.prof) {x : Ctx} (hfreq : x.afreq = 0) (hquant : x.aquant = 0) :
    packByte .audioSource p x 0 = 0x50 ∧
      (packByte .audioSource p x 1).toNat % 64 = samplesOf p x.n - p.mins.getD 0 0 ∧
      (packByte .audioSource p x 3).toNat % 32 = (if x.naudio = 2 then 2 else 0) ∧
      packByte .audioSource p x 4 = 0x80 := by
  have hmade := makePack_audioSource hp x hfreq (hquant.trans_le (by decide))
  have hstype : (if x.naudio = 2 then 2 else 0) < 2 ^ 5 := by split <;> decide
  simp only [packByte, packBytes, hmade, hquant]
  refine ⟨rfl, (toNat_append_mod _ _).trans ?_, (toNat_append_mod _ _).trans ?_, rfl⟩
  · rw [BitVec.toNat_ofNat, Nat.mod_eq_of_lt (mins_add_delta hp x.n).2]
  · rw [BitVec.toNat_ofNat, Nat.mod_eq_of_lt hstype]

/-- What FORMAT_FRAME's rule gives is a skeleton (R200). -/
theorem isSkeleton_of_formatFrame {p : Profile} (hp : p ∈ cfg.prof) {x : Ctx} {F : Buffer}
    (h : formatFrame p x = .ok F) : IsSkeleton p x F.toList := by
  rcases formatFrame_cases p x with ⟨hpacks, -, hok⟩ | ⟨-, herr⟩
  · obtain rfl := Except.ok.inj (hok.symm.trans h)
    refine ⟨by rw [Array.length_toList, applyWrites_size, blankFrame_size], fun c s b j hc hs hb hj => ?_⟩
    exact (payAt_toList _ _).trans (bufAt_formatWrites hp hpacks hc hs hb hj)
  · cases herr.symm.trans h

section Frame

variable {s : State} {F0 : Buffer} (hF0 : formatFrame (sessionProfile s) (sessionCtx s) = .ok F0) (V : List Byte)

/-- Video and audio leave the bytes that the skeleton writes. -/
theorem bufAt_frameBuffer_metadata (F0 : Buffer) {b j : Nat} (hb : b < 150) (hj : j < writtenLen b) :
    bufAt (frameBuffer s F0 V) (80 * b + j) = bufAt F0 (80 * b + j) := by
  have hpos : ∀ p ∈ cfg.prof, 0 < p.S := by decide
  have hS := hpos _ (sessionProfile_mem s)
  have haddr : 80 * b + j = (0 * (sessionProfile s).S + 0) * 12000 + 80 * b + j := by omega
  rw [haddr, frameBuffer, bufAt_shuffleAll_of_not_mem (metadata_not_mem_audioAddrs 0 hS hb hj),
    bufAt_injectVideo_of_not_mem _ _ (metadata_not_mem_videoAddrs 0 hS hb hj)]

include hF0

theorem frameBuffer_size : (frameBuffer s F0 V).size = (sessionProfile s).frameSize := by
  rw [frameBuffer, shuffleAll_size, injectVideo_size, formatFrame_size hF0]

/-- The skeleton's bytes in the first segment. -/
theorem payAt_frameFrom {b j : Nat} (hb : b < 150) (hj : j < writtenLen b) :
    payAt (frameFrom s F0 V) (80 * b + j) = skeletonByte (sessionProfile s) (sessionCtx s) 0 0 b j := by
  have hp := sessionProfile_mem s
  have hpos : ∀ p ∈ cfg.prof, 0 < p.C ∧ 0 < p.S := by decide
  obtain ⟨hC, hS⟩ := hpos _ hp
  have hskel := (isSkeleton_of_formatFrame hp hF0).2 0 0 b j hC hS hb (hj.trans (writtenLen_lt_block b))
  simp only [Nat.zero_mul, Nat.zero_add, payAt_toList] at hskel
  rw [frameFrom_eq, payAt_toList, bufAt_frameBuffer_metadata V F0 hb hj, hskel]

/-- The frame is detected as the session's profile (R144). -/
theorem detectProfile_frameFrom : detectProfile (frameFrom s F0 V) = some s.profile.toNat := by
  have hskel := isSkeleton_of_formatFrame (sessionProfile_mem s) hF0
  have hsame : ∀ b j, b < 150 → j < writtenLen b →
      payAt (frameFrom s F0 V) (80 * b + j) = payAt F0.toList (80 * b + j) := fun b j hb hj => by
    rw [frameFrom_eq, payAt_toList, payAt_toList, bufAt_frameBuffer_metadata V F0 hb hj]
  have h0 := hsame 0 0 (by decide) (by decide)
  have h3 := hsame 0 3 (by decide) (by decide)
  have h448 := hsame 5 48 (by decide) (by decide)
  have h451 := hsame 5 51 (by decide) (by decide)
  simp only [Nat.mul_zero, Nat.zero_add, Nat.reduceMul, Nat.reduceAdd] at h0 h3 h448 h451
  rw [← hskel.detectProfile_eq_some (sessionProfile_get s), detectProfile_eq, detectProfile_eq, h0, h3, h448, h451]

/-- The video unit is read back: audio lies elsewhere (R207, R210). -/
theorem extractVideo_frameBuffer (hV : V.length = videoUnit (sessionProfile s)) :
    extractVideo (sessionProfile s) (frameBuffer s F0 V) = V := by
  calc extractVideo (sessionProfile s) (frameBuffer s F0 V)
      = extractVideo (sessionProfile s) (injectVideo (sessionProfile s) F0 V) :=
        List.map_congr_left fun a ha =>
          bufAt_shuffleAll_of_not_mem (fun c hmem => audioAddrs_disjoint_videoAddrs hmem ha) _ _ _ _
    _ = V := extractVideo_injectVideo (sessionProfile_mem s) (formatFrame_size hF0) hV

/-- The channels give back what the session had queued, but for the silence code (R235). -/
theorem sameButMuted_frameBuffer (h : StateInv s) (hm : s.mode = .mux) (haudio : audioReady s (fun _ => 0)) {i : Nat}
    (hi : i < s.naudio.toNat) :
    sameButMuted (queuedPcm s i) (deshuffle16 (sessionProfile s) (frameBuffer s F0 V) i
      (req (sessionProfile s) s.frames.toNat)).toList := by
  have hp := sessionProfile_mem s
  have hlen := queuedPcm_length haudio
  obtain ⟨-, -, hchannels⟩ := h.mux_audio hm
  have hholds : HoldsPcm (sessionProfile s) (frameBuffer s F0 V) i (queuedPcm s i) :=
    holdsPcm_shuffleAll hp hchannels hlen ((injectVideo_size _ F0 V).trans (formatFrame_size hF0)) i hi
  rw [← hlen i hi]
  exact hholds.sameButMuted hp ((hlen i hi).trans_le (req_le_audioWords hp _))

/-- Byte `i` of the pack at the fixed place of the audio source pack (R45, R216). -/
theorem payAt_frameFrom_asAddr {i : Nat} (hi : i < 5) :
    payAt (frameFrom s F0 V) (4323 + i) =
      packByte (if s.naudio.toNat > 0 then .audioSource else .nopack) (sessionProfile s) (sessionCtx s) i := by
  have hblock : writtenLen (6 + 16 * 3) = 8 := writtenLen_audioBlk 3
  have haddr : 4323 + i = 80 * (6 + 16 * 3) + (3 + i) := by omega
  rw [haddr, payAt_frameFrom hF0 V (by decide) (by omega), skeletonByte_audio _ _ 0 0 3 (by omega), if_neg (by omega),
    Nat.add_sub_cancel_left]
  rfl

/-- The audio source pack of the frame is read back (R243). -/
theorem audioParams_frameBuffer (h : StateInv s) (hm : s.mode = .mux) :
    ∃ a, audioParams (sessionProfile s) (frameBuffer s F0 V) = .ok a ∧ audioOf a = sessionAudio s := by
  have hp := sessionProfile_mem s
  obtain ⟨hfreq, hquant, hchannels⟩ := h.mux_audio hm
  have hpack := fun i hi => payAt_frameFrom_asAddr hF0 V (i := i) hi
  rw [show frameBuffer s F0 V = (frameFrom s F0 V).toArray from rfl]
  by_cases hnone : s.naudio.toNat = 0
  · have h0 : payAt (frameFrom s F0 V) 4323 = 0xFF := by
      rw [hpack 0 (by decide), if_neg (by omega), packByte, packBytes, makePack_nopack]
      rfl
    refine ⟨none, by rw [audioParams_eq, if_pos (by rw [h0]; decide)], ?_⟩
    rw [sessionAudio, hnone]
    rfl
  · simp only [if_pos (Nat.pos_of_ne_zero hnone)] at hpack
    obtain ⟨hselector, hafsize, hstype, hcodes⟩ := packByte_audioSource hp (x := sessionCtx s)
      (congrArg BitVec.toNat hfreq) (congrArg BitVec.toNat hquant)
    rw [← hpack _ (by decide)] at hselector hafsize hstype hcodes
    have hlow : (0x80 : Byte).toNat % 8 = 0 ∧ (0x80 : Byte).toNat / 8 % 8 = 0 := by decide
    have hstreams : (if (payAt (frameFrom s F0 V) (4323 + 3)).toNat % 32 = 2 ∧ (sessionProfile s).C = 2 then 2 else 1) =
        s.naudio.toNat := by
      have hmost := channels_le_two _ hp
      rw [hstype]
      by_cases htwo : s.naudio.toNat = 2
      · rw [if_pos ⟨if_pos htwo, by omega⟩, htwo]
      · rw [if_neg fun hboth => absurd ((if_neg htwo).symm.trans hboth.1) (by decide)]
        omega
    have hreq : 4 * ((sessionProfile s).mins.getD 0 0 + (payAt (frameFrom s F0 V) (4323 + 1)).toNat % 64) =
        req (sessionProfile s) s.frames.toNat := by
      rw [hafsize]
      exact congrArg (4 * ·) (mins_add_delta hp s.frames.toNat).1
    refine ⟨_, audioParams_linear hselector (by rw [hcodes]; exact hlow.1) (by rw [hcodes, hlow.2]; omega), ?_⟩
    rw [hstreams, hcodes, hlow.2, hreq, sessionAudio, if_neg hnone]
    rfl

end Frame

/-! ### What FEED_FRAME answers (R292, R302) -/

theorem exec_feedFrame_of_demux {s : State} (hm : s.mode = .demux) (pay : List Byte) :
    exec (.feedFrame ⟨0, 0, pay⟩) s = .next (feedFrame pay s) := by
  show feed ⟨0, 0, pay⟩ s = _
  rw [feed, modeRefusal_self hm (by decide)]
  rfl

/-- A whole frame of the session's profile, or of any in a new session, is decoded. -/
theorem feedFrame_of_audioParams {s : State} {r : Nat} {q : Profile} {pay : List Byte} {a : Option AudioParams}
    (hr : cfg.prof[r]? = some q) (hlen : q.frameSize ≤ pay.length) (hdetect : detectProfile pay = some r)
    (hsame : s.pvalid = true → r = s.profile.toNat)
    (ha : audioParams q (pay.take q.frameSize).toArray = .ok a) :
    feedFrame pay s = (frameFed s r (audioOf a)).respond (byte (audioOf a).ns)
      (decodedFrame r q (audioOf a) s.frames.toNat (audioPts s.abytes.toNat (audioOf a))
        (pay.take q.frameSize).toArray) := by
  have hlong : ∀ q ∈ cfg.prof, 480 ≤ q.frameSize := by decide
  have henough : ¬ pay.length < cfg.profileBytes := by
    have hq := hlong q (List.mem_of_getElem? hr)
    rw [cfg_profileBytes]
    omega
  have hkept : ¬ (s.pvalid = true ∧ r ≠ s.profile.toNat) := fun hother => hother.2 (hsame hother.1)
  simp only [feedFrame, if_neg henough, hdetect, if_neg hkept, hr, if_neg (Nat.not_lt.2 hlen), ha]

/-- A part of a byte string, behind what stands before it. -/
theorem slice_append_right {xs ys : List Byte} {m : Nat} (h : xs.length = m) (a n : Nat) :
    slice (xs ++ ys) (m + a) n = slice ys a n := by
  rw [slice, slice, ← h, List.drop_append, List.drop_eq_nil_of_le (by omega), List.nil_append, Nat.add_sub_cancel_left]

/-- The record is 44 bytes, the video unit and the streams (R302). -/
theorem decodedFrame_parts (r : Nat) (q : Profile) (ap : AudioParams) (vpts apts : Nat) (F : Buffer) :
    ∃ head : List Byte, head.length = 44 ∧
      decodedFrame r q ap vpts apts F = head ++ (extractVideo q F ++ allPcm q F ap) := by
  refine ⟨_, ?_, List.append_assoc _ _ _⟩
  simp

theorem slice_decodedFrame_video (r : Nat) (q : Profile) (ap : AudioParams) (vpts apts : Nat) (F : Buffer) :
    slice (decodedFrame r q ap vpts apts F) 44 (videoUnit q) = extractVideo q F := by
  obtain ⟨head, hhead, hparts⟩ := decodedFrame_parts r q ap vpts apts F
  rw [hparts, ← Nat.add_zero 44, slice_append_right hhead, slice, List.drop_zero,
    List.take_left' (extractVideo_length q F)]

theorem slice_decodedFrame_audio (r : Nat) (q : Profile) (ap : AudioParams) (vpts apts : Nat) (F : Buffer) {i : Nat}
    (hi : i < ap.ns) :
    slice (decodedFrame r q ap vpts apts F) (44 + videoUnit q + i * ap.size) ap.size = streamPcm q F ap i := by
  obtain ⟨head, hhead, hparts⟩ := decodedFrame_parts r q ap vpts apts F
  rw [hparts, Nat.add_assoc, slice_append_right hhead, slice_append_right (extractVideo_length q F),
    slice_allPcm q F ap hi]

/-- What a demux session gives back of the frame: the video unit and, but for the silence code, the streams (R363). -/
theorem feedFrame_frameFrom {s d : State} {F0 : Buffer} {V : List Byte} (h : StateInv s) (hm : s.mode = .mux)
    (hF0 : formatFrame (sessionProfile s) (sessionCtx s) = .ok F0) (hV : V.length = videoUnit (sessionProfile s))
    (haudio : audioReady s (fun _ => 0)) (hd : d.mode = .demux) (hsame : d.pvalid = true → d.profile = s.profile) :
    ∃ u P, exec (.feedFrame ⟨0, 0, frameFrom s F0 V⟩) d = .next u ∧
      u.response = some ⟨.ok, 0, byte s.naudio.toNat, P⟩ ∧ u.profile = s.profile ∧
      slice P 44 (videoUnit (sessionProfile s)) = V ∧
      ∀ i < s.naudio.toNat, sameButMuted (queuedPcm s i)
        (slice P (44 + videoUnit (sessionProfile s) + i * req (sessionProfile s) s.frames.toNat)
          (req (sessionProfile s) s.frames.toNat)) := by
  have hlen : (frameFrom s F0 V).length = (sessionProfile s).frameSize := frameFrom_length V hF0
  have hwhole : ((frameFrom s F0 V).take (sessionProfile s).frameSize).toArray = frameBuffer s F0 V := by
    rw [List.take_of_length_le hlen.le]
    rfl
  obtain ⟨a, hparams, ha⟩ := audioParams_frameBuffer hF0 V h hm
  have hfed := feedFrame_of_audioParams (s := d) (sessionProfile_get s) hlen.ge (detectProfile_frameFrom hF0 V)
    (fun hvalid => congrArg BitVec.toNat (hsame hvalid).symm) (hwhole.symm ▸ hparams)
  rw [hwhole, ha] at hfed
  refine ⟨_, decodedFrame s.profile.toNat (sessionProfile s) (sessionAudio s) d.frames.toNat
    (audioPts d.abytes.toNat (sessionAudio s)) (frameBuffer s F0 V), exec_feedFrame_of_demux hd _, ?_, ?_, ?_,
    fun i hi => ?_⟩
  · rw [hfed]
    rfl
  · rw [hfed]
    exact (BitVec.ofNat_toNat 2 s.profile).trans (BitVec.setWidth_eq s.profile)
  · rw [slice_decodedFrame_video]
    exact extractVideo_frameBuffer hF0 V hV
  · rw [← sessionAudio_size hi, slice_decodedFrame_audio _ _ (sessionAudio s) _ _ _ hi, streamPcm_linear _ _ rfl,
      sessionAudio_size hi]
    exact sameButMuted_frameBuffer hF0 V h hm haudio hi

/-! ### The paths to an emitted frame (R263, R264, R268) -/

/-- Whether TRY_EMIT_FRAME hands over the frame `F`. -/
def Emits (F : List Byte) (t : State) : Prop :=
  ∃ t', exec (.tryEmitFrame ⟨0, 0, []⟩) t = .next t' ∧ t'.response = some ⟨.ok, 0, 0, F⟩

/-- A frame that waits is handed over. -/
theorem emits_of_ready {t : State} {F : List Byte} (hm : t.mode = .mux) (hready : t.mstate = .ready)
    (hlen : F.length = (sessionProfile t).frameSize) (hframe : t.framebuf = Memory.ofBytes F) : Emits F t := by
  have hkept : evaluate (leaveEmitted t) = .ok t := by
    rw [leaveEmitted_of_ready hready]
    exact evaluate_of_mstate_ready hready
  exact ⟨_, (exec_tryEmitFrame_of_evaluate hm hkept).trans (emit_of_ready hready hlen hframe), rfl⟩

section Paths

variable {s : State} {F0 : Buffer} {V : List Byte} (h : StateInv s) (hm : s.mode = .mux)
  (hF0 : formatFrame (sessionProfile s) (sessionCtx s) = .ok F0) (hV : V.length = videoUnit (sessionProfile s))
  (haudio : audioReady s (fun _ => 0))

include hF0 in
/-- A session in which the assembled frame waits hands it over. -/
theorem emits_frameFrom_of_ready {t : State} (hmode : t.mode = .mux) (hready : t.mstate = .ready)
    (hprofile : t.profile = s.profile) (hframe : t.framebuf = Memory.ofBytes (frameFrom s F0 V)) :
    Emits (frameFrom s F0 V) t := by
  refine emits_of_ready hmode hready ?_ hframe
  rw [sessionProfile_congr hprofile]
  exact frameFrom_length V hF0

include h hm hF0 haudio

/-- TRY_EMIT_FRAME assembles a pending unit itself. -/
theorem emits_of_pending (hnot : s.mstate ≠ .ready) (hpend : s.vpend = true) (hvbuf : s.vbuf = Memory.ofBytes V) :
    Emits (frameFrom s F0 V) s := by
  obtain ⟨F0', vb, V', -, hvbuf', hF0', hexec⟩ := (Proofs.tryEmitFrameRule s h hm).2.2.1 hnot hpend haudio
  obtain rfl := Memory.ofBytes_injective (hvbuf.symm.trans hvbuf')
  obtain rfl := Except.ok.inj (hF0.symm.trans hF0')
  exact ⟨_, hexec, rfl⟩

include hV

/-- The PUSH_VIDEO that completes the frame leaves it waiting. -/
theorem emits_after_pushVideo (hnot : s.mstate ≠ .ready) :
    ∃ t, exec (.pushVideo ⟨0, 0, V⟩) s = .next t ∧ Emits (frameFrom s F0 V) t := by
  obtain ⟨-, -, hpush, -⟩ := Proofs.pushVideoRule s V h hm hV
  obtain ⟨F0', vb, hF0', hexec⟩ := hpush hnot haudio
  obtain rfl := Except.ok.inj (hF0.symm.trans hF0')
  exact ⟨_, hexec, emits_frameFrom_of_ready hF0 hm rfl rfl rfl⟩

omit hV

/-- The PUSH_AUDIO that completes the frame leaves it waiting. -/
theorem emits_after_pushAudio {s0 : State} {a : Byte} {x : List Byte} (h0 : StateInv s0) (hm0 : s0.mode = .mux)
    (hnot : s0.mstate ≠ .ready) (hpend : s0.vpend = true) (hvbuf : s0.vbuf = Memory.ofBytes V)
    (ha : a.toNat < s0.naudio.toNat)
    (hs : s = if a = 0 then { s0 with fifo0 := s0.fifo0 ++ x } else { s0 with fifo1 := s0.fifo1 ++ x }) :
    ∃ t, exec (.pushAudio ⟨a, 0, x⟩) s0 = .next t ∧ Emits (frameFrom s F0 V) t := by
  have hwritten : s = fifoWrite s0 a.toNat x := hs.trans (fifoWrite_of_byte s0 a x).symm
  have hprofile : sessionProfile s = sessionProfile s0 := sessionProfile_congr (by rw [hwritten, fifoWrite_profile])
  have hqueued : audioReady s0 (fun i => if i = a.toNat then x.length else 0) := by
    rw [hwritten] at haudio
    exact (audioReady_fifoWrite h0.naudio_range ha x).1 haudio
  have hroom : (fifoOf s0 a.toNat).length + x.length ≤ cfg.fifoCap := by
    have htwo : a.toNat < 2 := ha.trans_le h0.naudio_range
    have hfifo : fifoOf s a.toNat = fifoOf s0 a.toNat ++ x := by
      rw [hwritten, fifoOf_fifoWrite s0 htwo htwo, if_pos rfl]
    rw [← List.length_append, ← hfifo, fifoOf]
    split
    · exact h.fifo_cap.1
    · exact h.fifo_cap.2
  obtain ⟨-, -, -, hpush⟩ := Proofs.pushAudioRule.1 s0 a x h0 hm0 ha
  obtain ⟨F0', vb, V', -, hvbuf', hF0', hexec⟩ := hpush hroom hnot ⟨hpend, hqueued⟩
  obtain rfl := Memory.ofBytes_injective (hvbuf.symm.trans hvbuf')
  obtain rfl : F0 = F0' := by
    rw [hprofile, hwritten, sessionCtx_fifoWrite, hF0'] at hF0
    exact (Except.ok.inj hF0).symm
  rw [← hs] at hexec
  refine ⟨_, hexec, emits_frameFrom_of_ready hF0 hm rfl rfl rfl⟩

end Paths

end Sys2Proof.Machine

/-! ### The statement -/

namespace Sys2Proof.Proofs

open Sys2Proof.Machine Sys2Proof.Safety

/-- Settles O60: what the demux session reads of the assembled frame, and the four paths on which the frame is emitted. -/
theorem muxDemuxRoundTrip : Obligations.MuxDemuxRoundTrip := by
  intro s d V h hm hV haudio hd hsame
  obtain ⟨F0, hF0⟩ := session_format h hm
  refine ⟨F0, hF0, ?_, emits_of_pending h hm hF0 haudio, emits_after_pushVideo h hm hF0 hV haudio,
    fun s0 a x h0 hm0 hnot hpend hvbuf ha hs =>
      emits_after_pushAudio h hm hF0 haudio h0 hm0 hnot hpend hvbuf ha hs,
    fun t hmode hready hprofile hframe => emits_frameFrom_of_ready hF0 hmode hready hprofile hframe⟩
  obtain ⟨u, P, hexec, hresponse, hprofile, hvideo, hstreams⟩ := feedFrame_frameFrom h hm hF0 hV haudio hd hsame
  refine ⟨u, P, hexec, hresponse, hprofile, hvideo, fun i hi => ⟨hstreams i hi, fun hno => ?_⟩⟩
  have heven : (queuedPcm s i).length % 2 = 0 := by
    rw [queuedPcm_length haudio i hi, req]
    omega
  exact eq_of_sameButMuted (hstreams i hi) heven hno

end Sys2Proof.Proofs
end

section
/-! PROOFS. The transition table of `MSTATE` in a mux session, command by command. -/

namespace Sys2Proof.Machine

open Sys2Proof.Safety

/-! ### The moves of `MSTATE` (R269) -/

/-- The instructions that can write `MSTATE` when they are taken: the three commands of a running mux session, and the
three that set every piece of session state. -/
def writesMstate : Instr → Bool
  | .pushVideo _ | .pushAudio _ | .tryEmitFrame _ | .openMux _ | .openDemux _ | .close _ => true
  | _ => false

/-- Every other instruction leaves `MSTATE`, taken or not. -/
theorem exec_keeps_mstate {i : Instr} {s t : State} (hi : writesMstate i = false) (h : exec i s = .next t) :
    t.mstate = s.mstate := by
  have he := exec_effect i s
  generalize hout : exec i s = out at he
  rw [h] at hout
  cases he with
  | same hst => cases hout; rw [hst]
  | fatal _ => cases hout; rfl
  | fed _ _ _ => cases hout; rfl
  | setRecdt _ => cases hout; rfl
  | openMux | pushVideo | pushAudio | assemblyFault | emit | openDemux | close => cases hi

/-- A session is opened in CLOSED only (R336). -/
theorem exec_open_of_mux {s : State} (hm : s.mode = .mux) (o : Operands) :
    exec (.openMux o) s = .next (s.raise .badMode) ∧ exec (.openDemux o) s = .next (s.raise .badMode) := by
  have hrefusal : modeRefusal .closed s = some .badMode := by rw [modeRefusal, hm]; rfl
  constructor
  · show openMux o s = _
    rw [openMux, hrefusal]
  · show execOpenDemux o s = _
    rw [execOpenDemux, hrefusal]

/-- The outcome `out` of a command in `s`: a response that reports a condition leaves `MSTATE`, and after any other
the next state and its response are as `taken` says. -/
def Moves (s : State) (taken : State → Response → Prop) (out : Out) : Prop :=
  ∀ t r, out = .next t → t.response = some r →
    (reportsCondition r → t.mstate = s.mstate) ∧ (¬ reportsCondition r → taken t r)

section Moves

variable {s : State} {taken : State → Response → Prop}

theorem moves_refused {u : State} (hu : u.mstate = s.mstate) (code : Byte) :
    Moves s taken (.next (endedState u .refused code)) := by
  intro t r ht hr
  cases ht
  cases hr
  have hrefused : reportsCondition ⟨.refused, code, 0, []⟩ := .inr (.inl rfl)
  exact ⟨fun _ => hu, fun hno => absurd hrefused hno⟩

theorem moves_taken {u : State} {r : Response} (hr : u.response = some r) (hno : ¬ reportsCondition r)
    (h : taken u r) : Moves s taken (.next u) := by
  intro t r' ht hr'
  cases ht
  cases hr.symm.trans hr'
  exact ⟨fun hc => absurd hc hno, fun _ => h⟩

theorem moves_ok {u : State} {ra : Byte} {v : List Byte} (h : taken (okState u ra v) ⟨.ok, 0, ra, v⟩) :
    Moves s taken (.next (okState u ra v)) :=
  moves_taken rfl (by simp [reportsCondition]) h

theorem moves_notReady {u : State} (h : taken u.respondNotReady ⟨.notReady, 0, 0, []⟩) :
    Moves s taken (.next u.respondNotReady) :=
  moves_taken rfl (by simp [reportsCondition]) h

end Moves

/-- The operands of a command that has passed the test of `A` and `B` (R115). -/
theorem operands_eq_of_zero {o : Operands} (h : ¬ (o.a ≠ 0 ∨ o.b ≠ 0)) : ∃ pay, o = ⟨0, 0, pay⟩ := by
  obtain ⟨a, b, pay⟩ := o
  obtain ⟨ha, hb⟩ := not_or.1 h
  obtain rfl : a = 0 := not_not.1 ha
  obtain rfl : b = 0 := not_not.1 hb
  exact ⟨pay, rfl⟩

/-- Where a push leads (R269): READY when a frame waits or its inputs are now there, else ACCUMULATING. -/
def PushMove (s : State) (ready : Prop) (t : State) (_ : Response) : Prop :=
  (s.mstate = .ready ∨ ready → t.mstate = .ready) ∧ (s.mstate ≠ .ready → ¬ ready → t.mstate = .accumulating)

theorem pushMove_ready {s t : State} {ready : Prop} {r : Response} (h : s.mstate = .ready ∨ ready)
    (ht : t.mstate = .ready) : PushMove s ready t r :=
  ⟨fun _ => ht, fun hnot hwait => absurd h (not_or.2 ⟨hnot, hwait⟩)⟩

theorem pushMove_accumulating {s t : State} {ready : Prop} {r : Response} (hnot : s.mstate ≠ .ready)
    (hwait : ¬ ready) (ht : t.mstate = .accumulating) : PushMove s ready t r :=
  ⟨fun h => absurd h (not_or.2 ⟨hnot, hwait⟩), fun _ _ => ht⟩

/-- Where TRY_EMIT_FRAME leads (R269): EMITTED with the frame counter advanced, or ACCUMULATING with NOT_READY. -/
def EmitMove (s : State) (ready : Prop) (t : State) (r : Response) : Prop :=
  (s.mstate = .ready ∨ ready → t.mstate = .emitted ∧ t.frames = s.frames + 1 ∧ r.cls = .ok) ∧
  (s.mstate ≠ .ready → ¬ ready → t.mstate = .accumulating ∧ t.frames = s.frames ∧ r.cls = .notReady)

section Session

variable {s : State} (h : StateInv s) (hm : s.mode = .mux) (o : Operands)
include h hm

theorem moves_pushVideo : Moves s (PushMove s (audioReady s fun _ => 0)) (exec (.pushVideo o) s) := by
  by_cases hoperands : o.a ≠ 0 ∨ o.b ≠ 0
  · rw [exec_pushVideo_of_mux hm, if_pos hoperands]
    exact moves_refused rfl _
  by_cases hlen : o.pay.length = videoUnit (sessionProfile s)
  · obtain ⟨V, rfl⟩ := operands_eq_of_zero hoperands
    obtain ⟨hwaits, haccumulates, hassembles, -⟩ := Proofs.pushVideoRule s V h hm hlen
    by_cases hready : s.mstate = .ready
    · rw [hwaits hready]
      exact moves_ok (pushMove_ready (.inl hready) hready)
    by_cases haudio : audioReady s fun _ => 0
    · obtain ⟨F0, vb, -, hexec⟩ := hassembles hready haudio
      rw [hexec]
      exact moves_ok (pushMove_ready (.inr haudio) rfl)
    · obtain ⟨fb, hexec⟩ := haccumulates hready haudio
      rw [hexec]
      exact moves_ok (pushMove_accumulating hready haudio rfl)
  · rw [exec_pushVideo_of_mux hm, if_neg hoperands, if_pos hlen]
    exact moves_refused rfl _

theorem moves_pushAudio :
    Moves s (PushMove s (s.vpend = true ∧ audioReady s fun i => if i = o.a.toNat then o.pay.length else 0))
      (exec (.pushAudio o) s) := by
  by_cases hoperands : o.a.toNat ≥ s.naudio.toNat ∨ o.b ≠ 0
  · rw [exec_pushAudio_of_mux hm, if_pos hoperands]
    exact moves_refused rfl _
  obtain ⟨a, b, x⟩ := o
  obtain ⟨ha, hb⟩ := not_or.1 hoperands
  obtain rfl : b = 0 := not_not.1 hb
  obtain ⟨hrefused, hwaits, haccumulates, hassembles⟩ := Proofs.pushAudioRule.1 s a x h hm (not_le.1 ha)
  by_cases hroom : (fifoOf s a.toNat).length + x.length ≤ cfg.fifoCap
  · by_cases hready : s.mstate = .ready
    · rw [hwaits hroom hready]
      refine moves_ok (pushMove_ready (.inl hready) ?_)
      rw [← fifoWrite_of_byte]
      exact (fifoWrite_mstate s _ _).trans hready
    by_cases hinputs : s.vpend = true ∧ audioReady s fun i => if i = a.toNat then x.length else 0
    · obtain ⟨F0, vb, V, -, -, -, hexec⟩ := hassembles hroom hready hinputs
      rw [hexec]
      exact moves_ok (pushMove_ready (.inr hinputs) rfl)
    · obtain ⟨fb, hexec⟩ := haccumulates hroom hready hinputs
      rw [hexec]
      exact moves_ok (pushMove_accumulating hready hinputs rfl)
  · rw [hrefused (not_le.1 hroom)]
    exact moves_refused rfl _

theorem moves_tryEmitFrame :
    Moves s (EmitMove s (s.vpend = true ∧ audioReady s fun _ => 0)) (exec (.tryEmitFrame o) s) := by
  obtain ⟨hwaits, hnone, hassembles, hoperand, hlength⟩ := Proofs.tryEmitFrameRule s h hm
  by_cases hoperands : o.a ≠ 0 ∨ o.b ≠ 0
  · rw [hoperand o hoperands]
    exact moves_refused rfl _
  obtain ⟨pay, rfl⟩ := operands_eq_of_zero hoperands
  by_cases hpay : pay = []
  · subst hpay
    by_cases hready : s.mstate = .ready
    · obtain ⟨F, -, -, hexec⟩ := hwaits hready
      rw [hexec]
      exact moves_ok ⟨fun _ => ⟨rfl, rfl, rfl⟩, fun hnot => absurd hready hnot⟩
    by_cases hinputs : s.vpend = true ∧ audioReady s fun _ => 0
    · obtain ⟨F0, vb, V, -, -, -, hexec⟩ := hassembles hready hinputs.1 hinputs.2
      rw [hexec]
      exact moves_ok ⟨fun _ => ⟨rfl, rfl, rfl⟩, fun _ hwait => absurd hinputs hwait⟩
    · obtain ⟨fb, hexec⟩ := hnone hready hinputs
      rw [hexec]
      exact moves_notReady (u := { s with mstate := .accumulating, framebuf := fb })
        ⟨fun hgo => absurd hgo (not_or.2 ⟨hready, hinputs⟩), fun _ _ => ⟨rfl, rfl, rfl⟩⟩
  · rw [hlength pay hpay]
    exact moves_refused rfl _

omit h hm

theorem moves_close :
    Moves s (fun t _ => t.mstate = .accumulating ∧ t.mode = .closed) (exec (.close o) s) := by
  rw [Proofs.closeRule s o]
  split
  · exact moves_refused rfl _
  split
  · exact moves_refused rfl _
  · exact moves_ok ⟨rfl, rfl⟩

end Session

end Sys2Proof.Machine

/-! ### The statement -/

namespace Sys2Proof.Proofs

open Sys2Proof.Machine Sys2Proof.Safety

/-- Settles O48: the three commands of a running session and CLOSE move `MSTATE` each by its rule, the two opens are
refused in MUX mode, and nothing else writes it. -/
theorem muxStateTransitions : Obligations.MuxStateTransitions := by
  intro i s t r h hm _ hexec hresponse
  cases i with
  | pushVideo o => exact moves_pushVideo h hm o t r hexec hresponse
  | pushAudio o => exact moves_pushAudio h hm o t r hexec hresponse
  | tryEmitFrame o => exact moves_tryEmitFrame h hm o t r hexec hresponse
  | close o => exact moves_close o t r hexec hresponse
  | openMux o =>
    cases (exec_open_of_mux hm o).1.symm.trans hexec
    exact ⟨fun _ => rfl, fun _ => rfl⟩
  | openDemux o =>
    cases (exec_open_of_mux hm o).2.symm.trans hexec
    exact ⟨fun _ => rfl, fun _ => rfl⟩
  | _ => exact ⟨fun _ => exec_keeps_mstate rfl hexec, fun _ => exec_keeps_mstate rfl hexec⟩

end Sys2Proof.Proofs
end

section
/-! PROOFS. Audio may be pushed in any chunks: `Evaluate` before a push makes no difference to `Evaluate` after it. -/

namespace Sys2Proof.Machine

open Sys2Proof.Safety

/-! ### Bytes behind those that a frame takes (R35, R267) -/

theorem shuffleAll_congr (p : Profile) (size : Nat) {A B : Nat → List Byte} (F : Buffer) {n : Nat}
    (h : ∀ i < n, A i = B i) : shuffleAll p n size A F = shuffleAll p n size B F := by
  induction n with
  | zero => rfl
  | succ n ih =>
    rw [shuffleAll_succ, shuffleAll_succ, ih fun i hi => h i (hi.trans (Nat.lt_succ_self n)), h n (Nat.lt_succ_self n)]

section Surplus

variable {s : State} (htwo : s.naudio.toNat ≤ 2) {i : Nat} (hi : i < s.naudio.toNat)
  (haudio : audioReady s fun _ => 0) (y : List Byte)
include htwo hi haudio

/-- More audio keeps the audio condition (R266). -/
theorem audioReady_fifoWrite_of_audioReady : audioReady (fifoWrite s i y) fun _ => 0 :=
  (audioReady_fifoWrite htwo hi y).2 fun j hj => (haudio j hj).trans (Nat.le_add_right _ _)

/-- A frame that has its audio does not see what is queued behind it. -/
theorem queuedPcm_fifoWrite {j : Nat} (hj : j < s.naudio.toNat) :
    queuedPcm (fifoWrite s i y) j = queuedPcm s j := by
  rw [queuedPcm, queuedPcm, fifoWrite_frames, sessionProfile_congr (fifoWrite_profile s i y),
    fifoOf_fifoWrite s (hi.trans_le htwo) (hj.trans_le htwo)]
  by_cases hji : j = i
  · subst hji
    rw [if_pos rfl, List.take_append_of_le_length (haudio j hj)]
  · rw [if_neg hji]

theorem frameFrom_fifoWrite (F0 : Buffer) (V : List Byte) :
    frameFrom (fifoWrite s i y) F0 V = frameFrom s F0 V := by
  rw [frameFrom_eq, frameFrom_eq, frameBuffer, frameBuffer, fifoWrite_naudio, fifoWrite_frames,
    sessionProfile_congr (fifoWrite_profile s i y)]
  exact congrArg Array.toList
    (shuffleAll_congr _ _ _ fun j hj => queuedPcm_fifoWrite htwo hi haudio y hj)

/-- Bytes written behind a frame's audio are what assembly leaves in the FIFO ("leftover FIFO bytes", R267). -/
theorem inputsTaken_fifoWrite (vb : Memory) :
    inputsTaken (fifoWrite s i y) vb = fifoWrite (inputsTaken s vb) i y := by
  have htaken := haudio i hi
  have hlt : i < 2 := hi.trans_le htwo
  rw [inputsTaken, fifoWrite_naudio, fifoWrite_frames, sessionProfile_congr (fifoWrite_profile s i y)]
  interval_cases i
  · simp only [inputsTaken, fifoWrite, if_true, if_pos hi]
    rw [List.drop_append_of_le_length (l₁ := s.fifo0) htaken]
  · simp only [inputsTaken, fifoWrite, one_ne_zero, if_false, if_pos hi]
    rw [List.drop_append_of_le_length (l₁ := s.fifo1) htaken]

end Surplus

/-! ### `Evaluate` under the invariant (R266) -/

/-- The state in which the frame of the skeleton `F0` and the video unit `V` waits (R266). -/
def assembledFrom (s : State) (F0 : Buffer) (V : List Byte) : State :=
  { inputsTaken s [] with mstate := .ready, framebuf := Memory.ofBytes (frameFrom s F0 V) }

/-- Under the invariant `Evaluate` goes through: nothing happens, or the frame is assembled. -/
theorem evaluate_of_stateInv {s : State} (h : StateInv s) :
    evaluate s = .ok s ∨
    ∃ F0 V, s.mstate = .accumulating ∧ s.vpend = true ∧ audioReady s (fun _ => 0) ∧
      V.length = videoUnit (sessionProfile s) ∧ s.vbuf = Memory.ofBytes V ∧
      formatFrame (sessionProfile s) (sessionCtx s) = .ok F0 ∧ evaluate s = .ok (assembledFrom s F0 V) := by
  by_cases hgo : s.mstate = .accumulating ∧ s.vpend = true ∧ audioReady s fun _ => 0
  · obtain ⟨hacc, hpend, haudio⟩ := hgo
    obtain ⟨hm, V, hV, hvbuf⟩ := h.vpend_unit hpend
    obtain ⟨F0, hF0⟩ := session_format h hm
    exact .inr ⟨F0, V, hacc, hpend, haudio, hV, hvbuf, hF0, evaluate_of_ready hacc hpend haudio hV hvbuf hF0⟩
  · exact .inl (evaluate_of_not_ready hgo)

/-- `Evaluate` before a push makes no difference to `Evaluate` after it: a frame assembled early is the frame
assembled late. -/
theorem evaluate_fifoWrite_of_evaluate {s u : State} (h : StateInv s) (hu : evaluate s = .ok u) {i : Nat}
    (hi : i < s.naudio.toNat) (y : List Byte) : evaluate (fifoWrite u i y) = evaluate (fifoWrite s i y) := by
  rcases evaluate_of_stateInv h with hkept | ⟨F0, V, hacc, hpend, haudio, hV, hvbuf, hF0, hassembled⟩
  · cases hkept.symm.trans hu
    rfl
  cases hassembled.symm.trans hu
  have hprofile := sessionProfile_congr (fifoWrite_profile s i y)
  calc evaluate (fifoWrite (assembledFrom s F0 V) i y)
      = .ok (fifoWrite (assembledFrom s F0 V) i y) :=
        evaluate_of_mstate_ready (fifoWrite_mstate _ i y)
    _ = .ok (assembledFrom (fifoWrite s i y) F0 V) := by
        rw [assembledFrom, assembledFrom, fifoWrite_with_framebuf, inputsTaken_fifoWrite h.naudio_range hi haudio y,
          frameFrom_fifoWrite h.naudio_range hi haudio y]
    _ = evaluate (fifoWrite s i y) :=
        (evaluate_of_ready ((fifoWrite_mstate s i y).trans hacc) ((fifoWrite_vpend s i y).trans hpend)
          (audioReady_fifoWrite_of_audioReady h.naudio_range hi haudio y)
          (hV.trans (congrArg (videoUnit ·) hprofile.symm)) ((fifoWrite_vbuf s i y).trans hvbuf)
          (by rw [hprofile, sessionCtx_fifoWrite, hF0])).symm

/-! ### PUSH_AUDIO after PUSH_AUDIO (R264, R270) -/

theorem fifoWrite_fifoWrite (s : State) (i : Nat) (x y : List Byte) :
    fifoWrite (fifoWrite s i x) i y = fifoWrite s i (x ++ y) := by
  by_cases hi : i = 0
  · simp only [fifoWrite, if_pos hi, List.append_assoc]
  · simp only [fifoWrite, if_neg hi, List.append_assoc]

theorem fifoWrite_respond (s : State) (ra : Byte) (v : List Byte) (i : Nat) (x : List Byte) :
    fifoWrite (s.respond ra v) i x = (fifoWrite s i x).respond ra v := by
  unfold fifoWrite
  split <;> rfl

/-- `Evaluate` neither reads nor writes the response. -/
theorem evaluate_respond {s u : State} (hu : evaluate s = .ok u) (ra : Byte) (v : List Byte) :
    evaluate (s.respond ra v) = .ok (u.respond ra v) := by
  rcases evaluate_cases s with ⟨hno, hok⟩ | ⟨-, -, herr⟩ | ⟨hgo, V, hread, ⟨k, -, herr⟩ | ⟨F, hF, hok⟩⟩
  · cases hok.symm.trans hu
    rw [evaluate, if_neg]
    exact Bool.eq_false_iff.1 hno
  · cases herr.symm.trans hu
  · cases herr.symm.trans hu
  · cases hok.symm.trans hu
    have hgo' : frameReady (s.respond ra v) = true := hgo
    have hread' : Memory.readBytes (s.respond ra v).vbuf (videoUnit (sessionProfile (s.respond ra v))) = some V := hread
    have hF' : assembledFrame (s.respond ra v) V = .ok F := hF
    rw [evaluate, if_pos hgo', assemble, hread']
    simp only [hF']
    rfl

theorem leaveEmitted_of_ne_emitted {s : State} (h : s.mstate ≠ .emitted) : leaveEmitted s = s := if_neg h

theorem fifoOf_leaveEmitted (s : State) (i : Nat) : fifoOf (leaveEmitted s) i = fifoOf s i := by
  rw [fifoOf, leaveEmitted_fifo0, leaveEmitted_fifo1, fifoOf]

/-- `s` is a mux session in which `n` more bytes of stream `a` fit (R264). -/
structure Accepts (s : State) (a : Byte) (n : Nat) : Prop where
  inv : StateInv s
  mux : s.mode = .mux
  stream : a.toNat < s.naudio.toNat
  room : (fifoOf s a.toNat).length + n ≤ cfg.fifoCap

theorem Accepts.mono {s : State} {a : Byte} {m n : Nat} (h : Accepts s a n) (hmn : m ≤ n) : Accepts s a m :=
  { h with room := (Nat.add_le_add_left hmn _).trans h.room }

theorem Accepts.respond {s : State} {a : Byte} {n : Nat} (h : Accepts s a n) (ra : Byte) (v : List Byte) :
    Accepts (s.respond ra v) a n :=
  ⟨h.inv.respond ra v, h.mux, h.stream, h.room⟩

/-- The session after PUSH_AUDIO's own writes. -/
theorem Accepts.after_audioPushed {s : State} {a : Byte} {x : List Byte} {n : Nat} (h : Accepts s a (x.length + n)) :
    Accepts (audioPushed s a.toNat x) a n := by
  have hmux : (leaveEmitted s).mode = .mux := (leaveEmitted_mode s).trans h.mux
  have hstream : a.toNat < (leaveEmitted s).naudio.toNat := by rw [leaveEmitted_naudio]; exact h.stream
  have hroom : (fifoOf (leaveEmitted s) a.toNat).length + (x.length + n) ≤ cfg.fifoCap := by
    rw [fifoOf_leaveEmitted]; exact h.room
  have htwo : a.toNat < 2 := hstream.trans_le h.inv.leaveEmitted.naudio_range
  refine ⟨h.inv.leaveEmitted.fifoWrite hmux hstream (by omega), (fifoWrite_mode _ _ _).trans hmux,
    by rwa [audioPushed, fifoWrite_naudio], ?_⟩
  rw [audioPushed, fifoOf_fifoWrite _ htwo htwo, if_pos rfl, List.length_append]
  omega

/-- `Evaluate` goes through, frees room if anything, and never leaves EMITTED. -/
theorem Accepts.evaluate_ok {s : State} {a : Byte} {n : Nat} (h : Accepts s a n) (hs : s.mstate ≠ .emitted) :
    ∃ u, evaluate s = .ok u ∧ u.mstate ≠ .emitted ∧ Accepts u a n := by
  rcases evaluate_of_stateInv h.inv with hkept | ⟨F0, V, -, -, -, -, -, -, hassembled⟩
  · exact ⟨s, hkept, hs, h⟩
  · have hshorter : (fifoOf (assembledFrom s F0 V) a.toNat).length ≤ (fifoOf s a.toNat).length := by
      simp only [fifoOf]
      split
      · exact length_ite_drop_le _ _ _
      · exact length_ite_drop_le _ _ _
    exact ⟨_, hassembled, nofun, h.inv.evaluate hassembled, h.mux, h.stream,
      (Nat.add_le_add_right hshorter n).trans h.room⟩

theorem audioPushed_mstate_ne (s : State) (i : Nat) (x : List Byte) : (audioPushed s i x).mstate ≠ .emitted := by
  rw [audioPushed, fifoWrite_mstate, leaveEmitted_mstate]
  split
  · decide
  · assumption

/-- A PUSH_AUDIO that fits goes through (R264). -/
theorem Accepts.evaluate_audioPushed {s : State} {a : Byte} {x : List Byte} {n : Nat}
    (h : Accepts s a (x.length + n)) :
    ∃ u, evaluate (audioPushed s a.toNat x) = .ok u ∧ u.mstate ≠ .emitted ∧ Accepts u a n :=
  h.after_audioPushed.evaluate_ok (audioPushed_mstate_ne s a.toNat x)

theorem exec_pushAudio_of_evaluate {s u : State} {a : Byte} {x : List Byte} (h : Accepts s a x.length)
    (hu : evaluate (audioPushed s a.toNat x) = .ok u) : exec (.pushAudio ⟨a, 0, x⟩) s = .next (u.respond 0 []) := by
  have hstream : ¬ (a.toNat ≥ s.naudio.toNat ∨ (0 : Half) ≠ 0) := by simpa using h.stream
  rw [exec_pushAudio_of_mux h.mux, if_neg hstream, if_neg (not_lt.2 h.room), hu]
  rfl

/-- Two pushes are one push of both (R270): the state is the same, whichever of them finds the frame complete. -/
theorem exec_pushAudio_append {s : State} {a : Byte} {x y : List Byte} (h : Accepts s a (x.length + y.length)) :
    ∃ t, exec (.pushAudio ⟨a, 0, x⟩) s = .next t ∧ Accepts t a y.length ∧
      exec (.pushAudio ⟨a, 0, y⟩) t = exec (.pushAudio ⟨a, 0, x ++ y⟩) s := by
  have hpushed := h.after_audioPushed
  have hboth : Accepts s a ((x ++ y).length + 0) := by rw [List.length_append]; exact h
  obtain ⟨u, hu, hleft, hmore⟩ := h.evaluate_audioPushed
  have hwritten : audioPushed (u.respond 0 []) a.toNat y = (fifoWrite u a.toNat y).respond 0 [] := by
    rw [audioPushed, leaveEmitted_of_ne_emitted (s := u.respond 0 []) hleft, fifoWrite_respond]
  have hsame : evaluate (fifoWrite u a.toNat y) = evaluate (audioPushed s a.toNat (x ++ y)) := by
    rw [evaluate_fifoWrite_of_evaluate hpushed.inv hu hpushed.stream y, audioPushed, fifoWrite_fifoWrite, audioPushed]
  obtain ⟨w, hw, -⟩ := hboth.evaluate_audioPushed
  refine ⟨_, exec_pushAudio_of_evaluate (h.mono (Nat.le_add_right _ _)) hu, hmore.respond 0 [], ?_⟩
  rw [exec_pushAudio_of_evaluate hboth hw, exec_pushAudio_of_evaluate (hmore.respond 0 [])
    (hwritten ▸ evaluate_respond (hsame.trans hw) 0 [])]
  rfl

/-- Pushing a stream in chunks ends as pushing it whole. -/
theorem pushChunks_eq_exec {a : Byte} {chunks : List (List Byte)} (hne : chunks ≠ []) {s : State}
    (h : Accepts s a chunks.flatten.length) : pushChunks a chunks s = exec (.pushAudio ⟨a, 0, chunks.flatten⟩) s := by
  induction chunks generalizing s with
  | nil => exact absurd rfl hne
  | cons x rest ih =>
    rw [List.flatten_cons, List.length_append] at h
    obtain ⟨t, hx, hmore, hboth⟩ := exec_pushAudio_append h
    have hchunks : pushChunks a (x :: rest) s = pushChunks a rest t := by rw [pushChunks, hx]
    rw [hchunks, List.flatten_cons]
    cases rest with
    | nil => rw [List.flatten_nil, List.append_nil, hx]; rfl
    | cons y rest => rw [ih (List.cons_ne_nil y rest) hmore, hboth]

end Sys2Proof.Machine

/-! ### The statement -/

namespace Sys2Proof.Proofs

open Sys2Proof.Machine Sys2Proof.Safety

/-- Settles O49, by induction on the chunks: two pushes are one push of both. -/
theorem fifoEquivalence : Obligations.FifoEquivalence := by
  intro s a chunks h hm ha hne hroom
  have haccepts : Accepts s a (chunks.flatten.length + 0) := ⟨h, hm, ha, hroom⟩
  obtain ⟨u, hu, -⟩ := haccepts.evaluate_audioPushed
  have hexec := exec_pushAudio_of_evaluate haccepts hu
  exact ⟨_, hexec, (pushChunks_eq_exec hne haccepts).trans hexec, rfl⟩

end Sys2Proof.Proofs
end

section
/-! PROOFS. FEED_FRAME: the `DecodedFrame` record field by field, the audio presentation time, and the ways in which the
command stops. -/

namespace Sys2Proof.Machine

open Sys2Proof.Safety

/-! ### The audio presentation time (R296) -/

/-- The three frequencies (R47). -/
theorem rateOf_eq {smp : Nat} (h : smp ≤ 2) :
    rateOf smp = if smp = 0 then 48000 else if smp = 1 then 44100 else 32000 := by
  interval_cases smp <;> rfl

theorem rateOf_ge {smp : Nat} (h : smp ≤ 2) : 32000 ≤ rateOf smp := by
  rw [rateOf_eq h]
  split_ifs <;> decide

/-- A test for streams, as the statements write it: whether there is none. -/
theorem ite_streams {α : Type} (ns : Nat) (x y : α) : (if ns > 0 then x else y) = if ns = 0 then y else x := by
  simp only [gt_iff_lt, Nat.pos_iff_ne_zero, ne_eq, ite_not]

theorem audioPts_eq (n : Nat) (ap : AudioParams) :
    audioPts n ap = if ap.ns = 0 then 0 else n * 240000 / (32 * rateOf ap.smp) := ite_streams _ _ _

/-- The divisor of R296 is at least its factor, so that the time fits where the byte counter does. -/
theorem audioPts_le {ap : AudioParams} (h : ap.smp ≤ 2) (n : Nat) : audioPts n ap ≤ n := by
  have hrate : 240000 ≤ 32 * rateOf ap.smp := by
    have hmin := rateOf_ge h
    omega
  rw [audioPts_eq]
  split
  · exact Nat.zero_le n
  · exact Nat.div_le_of_le_mul (by rw [Nat.mul_comm]; exact Nat.mul_le_mul_right n hrate)

/-! ### What the audio source pack says of a frame (R243, R244) -/

/-- Without an audio source pack, or with one whose codes have a meaning, nothing is reported. -/
theorem audioParams_isOk {p : Profile} {F : List Byte}
    (h : payAt F 4323 ≠ 0x50 ∨ ((payAt F 4327).toNat % 8 ≤ 1 ∧ (payAt F 4327).toNat / 8 % 8 ≤ 2)) :
    ∃ a, audioParams p F.toArray = .ok a := by
  rw [audioParams_eq]
  by_cases hpack : payAt F 4323 = 0x50
  · obtain ⟨hquant, hfreq⟩ := h.resolve_left (not_not.2 hpack)
    rw [if_neg (not_not.2 hpack), if_neg (Nat.not_lt.2 hquant), if_neg (Nat.not_lt.2 hfreq)]
    exact ⟨_, rfl⟩
  · rw [if_pos hpack]
    exact ⟨_, rfl⟩

/-- A stream's bytes in a frame: at most four times the greatest `mins` and the greatest `afsize` (R41, R170). -/
theorem audioOf_size_le {p : Profile} (hp : p ∈ cfg.prof) {F : List Byte} {a : Option AudioParams}
    (h : audioParams p F.toArray = .ok a) : (audioOf a).size ≤ 7836 := by
  have hmins : ∀ p ∈ cfg.prof, ∀ f ≤ 2, p.mins.getD f 0 ≤ 1896 := by decide
  rw [audioParams_eq] at h
  split at h
  · cases h
    exact Nat.zero_le _
  split at h
  · cases h
  split at h
  · cases h
  next hfreq =>
  cases h
  have hmin := hmins p hp _ (Nat.not_lt.1 hfreq)
  show 4 * (_ + (payAt F 4324).toNat % 64) ≤ 7836
  omega

/-- A frame without audio is answered as one of no streams, so that one form covers both (R244). -/
theorem audioReply_eq (p : Profile) (F : Buffer) (a : Option AudioParams) :
    audioReply p F a = ⟨byte (audioOf a).ns, [byte (audioOf a).ns, byte (audioOf a).smp, byte (audioOf a).qu, 0] ++
      leBytes 4 (audioOf a).size ++ allPcm p F (audioOf a)⟩ := by
  cases a <;> rfl

/-- What ends in class ERROR has raised the condition of its code (R102, R320). -/
theorem pureCommand_eq_error {r : Except Kind Reply} {s : State} {code : Byte}
    (h : pureCommand r s = .next (endedState s .error code)) :
    ∃ k, r = .error k ∧ kindClass k = .error ∧ kindCode k = code := by
  have hresponse := congrArg State.response (Host.Outcome.next.inj h)
  cases r with
  | ok v => cases hresponse
  | error k =>
    obtain ⟨hclass, hcode, -⟩ := Response.mk.inj (Option.some.inj hresponse)
    exact ⟨k, rfl, hclass, hcode⟩

/-- What EXTRACT_AUDIO reports on a frame is what the audio source pack says (R243). -/
theorem audioParams_of_extractAudio_error {r : Nat} {p : Profile} (hr : cfg.prof[r]? = some p) {F : List Byte}
    (hF : F.length = p.frameSize) {s : State} {code : Byte}
    (h : exec (.extractAudio ⟨byte r, 0, F⟩) s = .next (endedState s .error code)) :
    ∃ k, audioParams p F.toArray = .error k ∧ kindClass k = .error ∧ kindCode k = code := by
  obtain ⟨k, hreply, hkind⟩ := pureCommand_eq_error h
  rw [extractAudioReply_of_length hr hF rfl] at hreply
  cases ha : audioParams p F.toArray with
  | ok a =>
    rw [ha] at hreply
    cases hreply
  | error k' =>
    rw [ha] at hreply
    cases hreply
    exact ⟨k, rfl, hkind⟩

/-! ### The detection of a frame with bytes behind it (R144, R292) -/

/-- Detection reads nothing behind the profile test's bytes. -/
theorem detectProfile_append {F : List Byte} (h : 480 ≤ F.length) (extra : List Byte) :
    detectProfile (F ++ extra) = detectProfile F := by
  have hsame : ∀ i < 480, payAt (F ++ extra) i = payAt F i := fun i hi => payAt_append_left (hi.trans_le h)
  rw [detectProfile_eq, detectProfile_eq, hsame 0 (by decide), hsame 3 (by decide), hsame 448 (by decide),
    hsame 451 (by decide)]

/-- Every frame is longer than the profile test (R41, R144). -/
theorem profileBytes_le_frameSize : ∀ p ∈ cfg.prof, 480 ≤ p.frameSize := by decide

/-! ### Where FEED_FRAME stops (R292, R294, R295) -/

theorem State.raiseFatal_eq (s : State) (k : Kind) :
    s.raiseFatal k = endedState { s with mode := .failed } (kindClass k) (kindCode k) := rfl

theorem exec_feedFrame_refused {s : State} (hm : s.mode = .demux) {o : Operands} (ho : o.a ≠ 0 ∨ o.b ≠ 0) :
    exec (.feedFrame o) s = .next (s.raise .badOperand) := by
  show feed o s = _
  rw [feed, modeRefusal_self hm (by decide)]
  exact if_pos ((operandsZero_not_iff o).2 ho)

section Stops

variable {s : State} {pay : List Byte}

theorem feedFrame_of_length_lt (h : pay.length < 480) : feedFrame pay s = s.raise .incompleteInput := if_pos h

theorem not_lt_profileBytes (h : 480 ≤ pay.length) : ¬ pay.length < cfg.profileBytes := Nat.not_lt.2 h

variable (henough : 480 ≤ pay.length)
include henough

theorem feedFrame_of_unrecognized (hdetect : detectProfile pay = none) :
    feedFrame pay s = s.raiseFatal .profileUnrecognized := by
  rw [feedFrame, if_neg (not_lt_profileBytes henough), hdetect]

variable {r : Nat} {q : Profile} (hdetect : detectProfile pay = some r)
include hdetect

theorem feedFrame_of_other_profile (hother : s.pvalid = true ∧ r ≠ s.profile.toNat) :
    feedFrame pay s = s.raiseFatal .profileUnrecognized := by
  rw [feedFrame, if_neg (not_lt_profileBytes henough), hdetect]
  exact if_pos hother

variable (hr : cfg.prof[r]? = some q) (hsame : s.pvalid = true → r = s.profile.toNat)
include hr hsame

theorem feedFrame_of_frame_incomplete (hshort : pay.length < q.frameSize) :
    feedFrame pay s = s.raise .incompleteInput := by
  simp only [feedFrame, if_neg (not_lt_profileBytes henough), hdetect, if_neg (not_and_not_right.2 hsame), hr,
    if_pos hshort]

theorem feedFrame_of_audioParams_error (hlen : q.frameSize ≤ pay.length) {k : Kind}
    (ha : audioParams q (pay.take q.frameSize).toArray = .error k) : feedFrame pay s = s.raiseFatal k := by
  simp only [feedFrame, if_neg (not_lt_profileBytes henough), hdetect, if_neg (not_and_not_right.2 hsame), hr,
    if_neg (Nat.not_lt.2 hlen), ha]

end Stops

/-! ### The `DecodedFrame` record (R302) -/

section Record

variable (r : Nat) (q : Profile) (ap : AudioParams) (vpts apts : Nat) (F : Buffer)

/-- The first sixteen bytes: the ids and codes, and the shape of a stream. -/
theorem decodedFrame_audio_header :
    let P := decodedFrame r q ap vpts apts F
    payAt P 0 = byte r ∧ payAt P 1 = byte ap.ns ∧ payAt P 2 = byte ap.smp ∧ payAt P 3 = byte ap.qu ∧
    slice P 4 4 = leBytes 4 (if ap.ns = 0 then 0 else rateOf ap.smp) ∧
    payAt P 8 = (if ap.ns = 0 then 0 else 2) ∧ slice P 9 3 = [0, 0, 0] ∧ slice P 12 4 = leBytes 4 ap.size :=
  ⟨rfl, rfl, rfl, rfl, congrArg (leBytes 4) (ite_streams _ _ _),
    (apply_ite byte _ _ _).trans (ite_streams _ _ _), rfl, rfl⟩

/-- Bytes 16 to 43: the two presentation times, the frame rate and the size of the video unit. -/
theorem decodedFrame_timing :
    let P := decodedFrame r q ap vpts apts F
    slice P 16 8 = leBytes 8 vpts ∧ slice P 24 8 = leBytes 8 apts ∧ slice P 32 4 = leBytes 4 q.rateNum ∧
    slice P 36 4 = leBytes 4 q.rateDen ∧ slice P 40 4 = leBytes 4 (videoUnit q) :=
  ⟨rfl, rfl, rfl, rfl, rfl⟩

theorem decodedFrame_length :
    (decodedFrame r q ap vpts apts F).length = 44 + videoUnit q + ap.ns * ap.size := by
  obtain ⟨head, hhead, hparts⟩ := decodedFrame_parts r q ap vpts apts F
  rw [hparts, List.length_append, List.length_append, hhead, extractVideo_length, allPcm_length, Nat.add_assoc]

/-- Behind the video unit stand the streams. -/
theorem drop_decodedFrame :
    (decodedFrame r q ap vpts apts F).drop (44 + videoUnit q) = allPcm q F ap := by
  obtain ⟨head, hhead, hparts⟩ := decodedFrame_parts r q ap vpts apts F
  rw [hparts, ← List.append_assoc,
    List.drop_left' (by rw [List.length_append, hhead, extractVideo_length])]

end Record

/-- The rates of a profile and its video unit fit their four bytes (R41, R302). -/
theorem profile_numbers_lt : ∀ q ∈ cfg.prof,
    q.rateNum < 256 ^ 4 ∧ q.rateDen < 256 ^ 4 ∧ videoUnit q < 256 ^ 4 := by decide

/-- A whole frame, with or without bytes behind it, is committed and answered with its record (R292). -/
theorem exec_feedFrame_append {s : State} {r : Nat} {q : Profile} {F : List Byte} {a : Option AudioParams}
    (hm : s.mode = .demux) (hr : cfg.prof[r]? = some q) (hF : F.length = q.frameSize)
    (hdetect : detectProfile F = some r) (hsame : s.pvalid = true → r = s.profile.toNat)
    (ha : audioParams q F.toArray = .ok a) (extra : List Byte) :
    exec (.feedFrame ⟨0, 0, F ++ extra⟩) s = .next ((frameFed s r (audioOf a)).respond (byte (audioOf a).ns)
      (decodedFrame r q (audioOf a) s.frames.toNat (audioPts s.abytes.toNat (audioOf a)) F.toArray)) := by
  have hwhole : (F ++ extra).take q.frameSize = F := List.take_left' hF
  have hlen : q.frameSize ≤ (F ++ extra).length := by
    rw [List.length_append, hF]
    exact Nat.le_add_right _ _
  have henough : 480 ≤ F.length := hF ▸ profileBytes_le_frameSize q (List.mem_of_getElem? hr)
  have hfed := feedFrame_of_audioParams hr hlen ((detectProfile_append henough extra).trans hdetect) hsame
    (hwhole.symm ▸ ha)
  rw [exec_feedFrame_of_demux hm, hfed, hwhole]

end Sys2Proof.Machine

/-! ### The statements -/

namespace Sys2Proof.Proofs

open Sys2Proof.Machine Sys2Proof.Safety

/-- Settles O54: the record of `decodedFrame` read part by part, with what EXTRACT_VIDEO and EXTRACT_AUDIO answer for
the same frame. -/
theorem feedFrameDecodes : Obligations.FeedFrameDecodes := by
  intro s r q F extra hm hr hF hdetect hsame hcodes
  have hq : q ∈ cfg.prof := List.mem_of_getElem? hr
  obtain ⟨a, ha⟩ := audioParams_isOk (p := q) hcodes
  obtain ⟨hns, hsmp, hqu⟩ := audioOf_ok ha
  have hsize := audioOf_size_le hq ha
  have hvideo : exec (.extractVideo ⟨byte r, 0, F⟩) State.reset =
      .next (okState State.reset 0 (extractVideo q F.toArray)) :=
    pureCommand_eq_okState.2 (extractVideoReply_of_length hr hF)
  have haudio := pureCommand_eq_okState (s := State.reset).2
    ((extractAudioReply_of_length hr hF ha).trans (congrArg Except.ok (audioReply_eq q F.toArray a)))
  have hfed := exec_feedFrame_append hm hr hF hdetect hsame ha extra
  generalize audioOf a = ap at hns hsmp hqu hsize haudio hfed
  have hcommitted : frameFed s r ap = { s with
      profile := BitVec.ofNat 2 r, pvalid := true, naudio := BitVec.ofNat 2 ap.ns, afreq := BitVec.ofNat 3 ap.smp
      aquant := BitVec.ofNat 3 ap.qu, abytes := s.abytes + BitVec.ofNat 64 ap.size, frames := s.frames + 1 } := by
    rw [frameFed, counter_add, counter_add]
    rfl
  rw [hcommitted] at hfed
  have hrate : (if ap.ns = 0 then 0 else rateOf ap.smp) < 256 ^ 4 := by
    rw [rateOf_eq hsmp]
    split_ifs <;> decide
  have hpts : audioPts s.abytes.toNat ap < 256 ^ 8 := (audioPts_le hsmp _).trans_lt s.abytes.isLt
  obtain ⟨hnum, hden, hunit⟩ := profile_numbers_lt q hq
  obtain ⟨h0, h1, h2, h3, h4, h8, h9, h12⟩ :=
    decodedFrame_audio_header r q ap s.frames.toNat (audioPts s.abytes.toNat ap) F.toArray
  obtain ⟨h16, h24, h32, h36, h40⟩ :=
    decodedFrame_timing r q ap s.frames.toNat (audioPts s.abytes.toNat ap) F.toArray
  refine ⟨ap.ns, ap.smp, ap.qu, ap.size, _, _, _, hvideo, haudio, hns, hsmp, hqu, by omega, allPcm_length _ _ _, hfed,
    decodedFrame_length _ _ _ _ _ _, h0, h1, h2, h3, ?_, h8, h9, ?_, ?_, ?_, ?_, ?_, ?_,
    slice_decodedFrame_video _ _ _ _ _ _, drop_decodedFrame _ _ _ _ _ _⟩
  · rw [h4, leNat_leBytes hrate, rateOf_eq hsmp]
  · rw [h12, leNat_leBytes (by omega)]
  · rw [h16, leNat_leBytes s.frames.isLt]
  · rw [h24, leNat_leBytes hpts, audioPts_eq, rateOf_eq hsmp]
  · rw [h32, leNat_leBytes hnum]
  · rw [h36, leNat_leBytes hden]
  · rw [h40, leNat_leBytes hunit]

/-- Settles O55: the tests of R292 in their order. -/
theorem feedFrameStops : Obligations.FeedFrameStops := by
  refine fun s o hm => ⟨fun ho => exec_feedFrame_refused hm ho, fun ha hb => ?_⟩
  obtain ⟨a, b, pay⟩ := o
  obtain rfl : a = 0 := ha
  obtain rfl : b = 0 := hb
  rw [exec_feedFrame_of_demux hm]
  refine ⟨fun hshort => congrArg _ (feedFrame_of_length_lt hshort), fun henough =>
    ⟨fun hnone => congrArg _ (feedFrame_of_unrecognized henough hnone), fun r q hdetect hr =>
      ⟨fun hvalid hne => congrArg _ (feedFrame_of_other_profile henough hdetect ⟨hvalid, hne⟩), fun hsame =>
        ⟨fun hshort => congrArg _ (feedFrame_of_frame_incomplete henough hdetect hr hsame hshort),
          fun code hlen hreport => ?_⟩⟩⟩⟩
  obtain ⟨k, hparams, hclass, hcode⟩ :=
    audioParams_of_extractAudio_error hr (List.length_take_of_le hlen) hreport
  rw [feedFrame_of_audioParams_error henough hdetect hr hsame hlen hparams, State.raiseFatal_eq, hclass, hcode]

/-- Settles O56: the quotient of R296 and its bounds; `240000 / (32 * 48000)` is `5 / 32`. -/
theorem audioPresentationTime : Obligations.AudioPresentationTime := by
  refine ⟨fun n ap hsome hsmp => ?_, fun n ap hsome hsmp => ?_, fun n ap hnone => ?_, rfl⟩
  · have hrate : rateOf ap.smp = 48000 := by rw [hsmp]; rfl
    rw [audioPts_eq, if_neg hsome.ne', hrate]
    omega
  · have hpos : 0 < 32 * rateOf ap.smp := by
      have hmin := rateOf_ge hsmp
      omega
    rw [audioPts_eq, if_neg hsome.ne']
    exact ⟨Nat.div_mul_le_self _ _, Nat.lt_mul_of_div_lt (Nat.lt_succ_self _) hpos⟩
  · rw [audioPts_eq, if_pos hnone]

end Sys2Proof.Proofs
end

section
/-! PROOFS. Precise exceptions: outside its modes a command is refused for the mode, and inside them the ways in which
it can end are said once for all commands. What `ERR`, `MODE` and the session then are follows from the ending. -/

namespace Sys2Proof.Machine

open Sys2Proof.Safety

/-! ### Outside its modes a command is refused (R329, R336) -/

/-- The condition of a command that the mode does not allow (R336). -/
def modeKind (s : State) : Kind := if s.mode = .failed then .sessionFailed else .badMode

theorem modeRefusal_of_ne {need : Mode} {s : State} (hn : need ≠ .failed) (h : s.mode ≠ need) :
    modeRefusal need s = some (modeKind s) := by
  cases hr : modeRefusal need s with
  | none => exact absurd ((modeRefusal_none hn).1 hr) h
  | some k => rw [modeRefusal_some hr, modeKind]

theorem mem_allModes (m : Mode) : m ∈ [Mode.closed, .mux, .demux, .failed] := by cases m <;> decide

theorem exec_of_not_mem_legalModes {i : Instr} {s : State} (h : s.mode ∉ legalModes i) :
    exec i s = .next (s.raise (modeKind s)) := by
  have hrefused {need : Mode} (hn : need ≠ .failed) (h : s.mode ∉ [need]) :
      modeRefusal need s = some (modeKind s) := modeRefusal_of_ne hn fun hs => h (List.mem_singleton.2 hs)
  cases i with
  | openMux o => show openMux o s = _; rw [openMux, hrefused (by decide) h]
  | openDemux o => show execOpenDemux o s = _; rw [execOpenDemux, hrefused (by decide) h]
  | pushVideo o => show pushVideo o s = _; rw [pushVideo, hrefused (by decide) h]
  | pushAudio o => show pushAudio o s = _; rw [pushAudio, hrefused (by decide) h]
  | tryEmitFrame o => show tryEmitFrame o s = _; rw [tryEmitFrame, hrefused (by decide) h]
  | setRecdt o => show execSetRecdt o s = _; rw [execSetRecdt, hrefused (by decide) h]
  | feedFrame o => show feed o s = _; rw [feed, hrefused (by decide) h]
  | _ => exact absurd (mem_allModes s.mode) h

/-! ### What a command raises about its own packet (R320, R329) -/

/-- The conditions that the mode raises. -/
def isModeKind : Kind → Bool
  | .badMode | .sessionFailed => true
  | _ => false

/-- A check or a reply that raises no condition of the mode: it does not look at the mode. -/
def IgnoresMode {α : Type} (r : Except Kind α) : Prop := ∀ k, r = .error k → isModeKind k = false

section IgnoresMode

variable {α : Type}

theorem IgnoresMode.ok (v : α) : IgnoresMode (.ok v) := nofun

theorem IgnoresMode.error {k : Kind} (h : isModeKind k = false) : IgnoresMode (α := α) (.error k) := by
  intro k' hk
  cases hk
  exact h

theorem IgnoresMode.ite {c : Prop} [Decidable c] {x y : Except Kind α} (hx : IgnoresMode x) (hy : IgnoresMode y) :
    IgnoresMode (if c then x else y) := by
  split
  · exact hx
  · exact hy

end IgnoresMode

theorem isModeKind_of_error {k : Kind} (h : kindClass k = .error) : isModeKind k = false := by
  cases k with
  | badMode | sessionFailed => cases h
  | _ => rfl

/-- The conditions of R243 are fatal kinds. -/
theorem audioParams_error {p : Profile} {F : Buffer} {k : Kind} (h : audioParams p F = .error k) :
    kindClass k = .error := by
  unfold audioParams at h
  split at h
  · cases h
  dsimp only at h
  split at h
  · cases h; rfl
  split at h
  · cases h; rfl
  · cases h

theorem ignoresMode_encodePack (k : PackKind) (dsf : Bool) (vs : List Nat) : IgnoresMode (encodePack k dsf vs) := by
  unfold encodePack
  exact .ite (.error rfl) (.ite (.ok _) (.error rfl))

theorem ignoresMode_muxTopology (o : Operands) : IgnoresMode (muxTopology o) := by
  unfold muxTopology
  refine .ite (.error rfl) (.ite (.error rfl) (.ite (.error rfl) (.ite (.error rfl) (.ite (.error rfl)
    (.ite (.error rfl) ?_)))))
  split
  · exact .error rfl
  · exact .ite (.error rfl) (.ite (.error rfl) (.ok _))

/-! The replies of the pure commands, each with its checks in their order. -/

theorem ignoresMode_profileSelectReply (o : Operands) : IgnoresMode (profileSelectReply o) := by
  unfold profileSelectReply
  refine .ite (.error rfl) (.ite (.error rfl) ?_)
  split
  · exact .error rfl
  · exact .ok _

theorem ignoresMode_profileDetectReply (o : Operands) : IgnoresMode (profileDetectReply o) := by
  unfold profileDetectReply
  refine .ite (.error rfl) (.ite (.error rfl) ?_)
  split
  · exact .error rfl
  · exact .ok _

theorem ignoresMode_kindLookupReply (o : Operands) : IgnoresMode (kindLookupReply o) := by
  unfold kindLookupReply
  split
  · exact .error rfl
  refine .ite (.error rfl) (.ite (.error rfl) ?_)
  split
  · exact .error rfl
  · exact .ok _

theorem ignoresMode_packEncReply (o : Operands) : IgnoresMode (packEncReply o) := by
  unfold packEncReply
  split
  · exact .error rfl
  refine .ite (.error rfl) ?_
  split
  · next he => exact .error (ignoresMode_encodePack _ _ _ _ he)
  · exact .ok _

theorem ignoresMode_packDecReply (o : Operands) : IgnoresMode (packDecReply o) := by
  unfold packDecReply decodeReply
  refine .ite (.error rfl) (.ite (.error rfl) ?_)
  split
  · exact .error rfl
  · exact .ok _

theorem ignoresMode_tcDeriveReply (o : Operands) : IgnoresMode (tcDeriveReply o) := by
  unfold tcDeriveReply
  split
  · exact .error rfl
  · exact .ite (.error rfl) (.ite (.error rfl) (.ok _))

theorem ignoresMode_formatFrameReply (o : Operands) : IgnoresMode (formatFrameReply o) := by
  unfold formatFrameReply
  split
  · exact .error rfl
  refine .ite (.error rfl) (.ite (.error rfl) (.ite (.error rfl) ?_))
  split
  · next he => rw [formatFrame_error he]; exact .error rfl
  · exact .ok _

theorem ignoresMode_injectVideoReply (o : Operands) : IgnoresMode (injectVideoReply o) := by
  unfold injectVideoReply
  split
  · exact .error rfl
  · exact .ite (.error rfl) (.ite (.error rfl) (.ok _))

theorem ignoresMode_injectAudioReply (o : Operands) : IgnoresMode (injectAudioReply o) := by
  unfold injectAudioReply
  split
  · exact .error rfl
  · exact .ite (.error rfl) (.ite (.error rfl) (.ite (.error rfl) (.ok _)))

theorem ignoresMode_extractVideoReply (o : Operands) : IgnoresMode (extractVideoReply o) := by
  unfold extractVideoReply
  split
  · exact .error rfl
  · exact .ite (.error rfl) (.ite (.error rfl) (.ok _))

theorem ignoresMode_extractAudioReply (o : Operands) : IgnoresMode (extractAudioReply o) := by
  unfold extractAudioReply
  split
  · exact .error rfl
  refine .ite (.error rfl) (.ite (.error rfl) ?_)
  split
  · next he => exact .error (isModeKind_of_error (audioParams_error he))
  · exact .ok _
  · exact .ok _

theorem ignoresMode_extractPackReply (o : Operands) : IgnoresMode (extractPackReply o) := by
  unfold extractPackReply
  split
  · exact .ite (.error rfl) (.ite (.error rfl) (.ok _))
  · exact .error rfl

theorem ignoresMode_expand12Reply (o : Operands) : IgnoresMode (expand12Reply o) := by
  unfold expand12Reply
  exact .ite (.error rfl) (.ite (.error rfl) (.ok _))

theorem ignoresMode_unpack12Reply (o : Operands) : IgnoresMode (unpack12Reply o) := by
  unfold unpack12Reply
  exact .ite (.error rfl) (.ite (.error rfl) (.ok _))

theorem ignoresMode_shufAddrReply (o : Operands) : IgnoresMode (shufAddrReply o) := by
  unfold shufAddrReply
  split
  · exact .error rfl
  · exact .ite (.error rfl) (.ite (.error rfl) (.ite (.ok _) (.error rfl)))

/-- A pure command's meaning is a reply that does not look at the mode (R103, R336). -/
theorem exec_of_isPure_ignoresMode {i : Instr} (h : isPure i = true) :
    ∃ r, IgnoresMode r ∧ ∀ s, exec i s = pureCommand r s := by
  cases i with
  | profileSelect o => exact ⟨_, ignoresMode_profileSelectReply o, fun _ => rfl⟩
  | profileDetect o => exact ⟨_, ignoresMode_profileDetectReply o, fun _ => rfl⟩
  | kindLookup o => exact ⟨_, ignoresMode_kindLookupReply o, fun _ => rfl⟩
  | packEnc o => exact ⟨_, ignoresMode_packEncReply o, fun _ => rfl⟩
  | packDec o => exact ⟨_, ignoresMode_packDecReply o, fun _ => rfl⟩
  | tcDerive o => exact ⟨_, ignoresMode_tcDeriveReply o, fun _ => rfl⟩
  | formatFrame o => exact ⟨_, ignoresMode_formatFrameReply o, fun _ => rfl⟩
  | injectVideo o => exact ⟨_, ignoresMode_injectVideoReply o, fun _ => rfl⟩
  | injectAudio o => exact ⟨_, ignoresMode_injectAudioReply o, fun _ => rfl⟩
  | extractVideo o => exact ⟨_, ignoresMode_extractVideoReply o, fun _ => rfl⟩
  | extractAudio o => exact ⟨_, ignoresMode_extractAudioReply o, fun _ => rfl⟩
  | extractPack o => exact ⟨_, ignoresMode_extractPackReply o, fun _ => rfl⟩
  | expand12 o => exact ⟨_, ignoresMode_expand12Reply o, fun _ => rfl⟩
  | unpack12 o => exact ⟨_, ignoresMode_unpack12Reply o, fun _ => rfl⟩
  | shufAddr o => exact ⟨_, ignoresMode_shufAddrReply o, fun _ => rfl⟩
  | _ => cases h

/-! ### How a command ends inside its modes (R102, R328, R334, R335) -/

/-- `ERR` after a command that succeeds (R334). -/
def errAfter (i : Instr) (s : State) : Byte :=
  match i with
  | .openMux _ | .openDemux _ | .close _ => 0
  | _ => s.err

/-- `MODE` after a command that succeeds (R335). -/
def modeAfter (i : Instr) (s : State) : Mode :=
  match i with
  | .openMux _ => .mux
  | .openDemux _ => .demux
  | .close _ => .closed
  | _ => s.mode

/-- Whether a condition changes nothing but `ERR` when the command raises it: the two exceptions of R328 are a fatal
kind of FEED_FRAME and FifoFull of PUSH_AUDIO. -/
def raisesAlone : Instr → Kind → Bool
  | .feedFrame _, k => decide (kindClass k ≠ .error)
  | .pushAudio _, k => decide (k ≠ .fifoFull)
  | _, _ => true

/-- Everything with which a command can end inside its modes. -/
inductive Ending : Instr → State → Out → Prop
  | ok {i s ra v} {u : State} : u.err = errAfter i s → u.mode = modeAfter i s → Ending i s (.next (u.respond ra v))
  | notReady {o s} {u : State} : u.err = s.err → u.mode = s.mode → Ending (.tryEmitFrame o) s (.next u.respondNotReady)
  | raised {i s k} : isModeKind k = false → raisesAlone i k = true → Ending i s (.next (s.raise k))
  | fifoFull {o s} : Ending (.pushAudio o) s (.next ((flagsOnFifoFull s).raise .fifoFull))
  | fatal {o s k} : kindClass k = .error → Ending (.feedFrame o) s (.next (s.raiseFatal k))
  | fault {i s f} : Ending i s (.fault f)

theorem ending_of_isPure {i : Instr} (hi : isPure i = true) (s : State) : Ending i s (exec i s) := by
  obtain ⟨r, hr, hexec⟩ := exec_of_isPure_ignoresMode hi
  rw [hexec s]
  have halone : ∀ k, raisesAlone i k = true := by
    intro k
    cases i with
    | feedFrame | pushAudio => cases hi
    | _ => rfl
  have hkept : errAfter i s = s.err ∧ modeAfter i s = s.mode := by
    cases i with
    | openMux | openDemux | close => cases hi
    | _ => exact ⟨rfl, rfl⟩
  cases r with
  | ok v => exact .ok hkept.1.symm hkept.2.symm
  | error k => exact .raised (hr k rfl) (halone k)

theorem evaluate_err {s t : State} (h : evaluate s = .ok t) : t.err = s.err := by
  rcases evaluate_cases s with ⟨-, hok⟩ | ⟨-, -, herr⟩ | ⟨-, V, -, ⟨k, -, herr⟩ | ⟨F, -, hok⟩⟩
  · cases hok.symm.trans h; rfl
  · cases herr.symm.trans h
  · cases herr.symm.trans h
  · cases hok.symm.trans h; rfl

/-- `Evaluate` raises only what formatting the skeleton raises (R178, R267). -/
theorem evaluate_raised {s : State} {k : Kind} (h : evaluate s = .error (.raised k)) : k = .fieldRange := by
  rcases evaluate_cases s with ⟨-, hok⟩ | ⟨-, -, herr⟩ | ⟨-, V, -, ⟨k', hframe, herr⟩ | ⟨F, -, hok⟩⟩
  · cases hok.symm.trans h
  · cases herr.symm.trans h
  · cases herr.symm.trans h
    unfold assembledFrame at hframe
    dsimp only at hframe
    split at hframe
    · next hformat => cases hframe; exact formatFrame_error hformat
    · cases hframe
  · cases hok.symm.trans h

/-- A push ends with what `Evaluate` leaves of its own writes. -/
theorem ending_sessionCommand {i : Instr} {s u : State} (hi : raisesAlone i .fieldRange = true)
    (herr : u.err = errAfter i s) (hmode : u.mode = modeAfter i s) :
    Ending i s (sessionCommand s 0 (evaluate u)) := by
  cases he : evaluate u with
  | ok t => exact .ok ((evaluate_err he).trans herr) ((evaluate_keeps he).1.trans hmode)
  | error e =>
    cases e with
    | raised k =>
      obtain rfl := evaluate_raised he
      exact .raised rfl hi
    | faulted f => exact .fault

section Commands

variable {s : State} (o : Operands)

theorem ending_openMux (hm : s.mode = .closed) : Ending (.openMux o) s (exec (.openMux o) s) := by
  show Ending _ _ (openMux o s)
  rw [openMux, modeRefusal_self hm (by decide)]
  dsimp only
  split
  · exact .raised rfl rfl
  split
  · next he => exact .raised (ignoresMode_muxTopology o _ he) rfl
  · exact .ok (openedMux_err _ _ _ _) (openedMux_mode _ _ _ _)

theorem ending_openDemux (hm : s.mode = .closed) : Ending (.openDemux o) s (exec (.openDemux o) s) := by
  show Ending _ _ (execOpenDemux o s)
  rw [execOpenDemux, modeRefusal_self hm (by decide)]
  dsimp only
  split
  · exact .raised rfl rfl
  split
  · exact .raised rfl rfl
  · exact .ok (State.cleared_err s) rfl

theorem ending_pushVideo (hm : s.mode = .mux) : Ending (.pushVideo o) s (exec (.pushVideo o) s) := by
  rw [exec_pushVideo_of_mux hm, ← State.raise_badOperand, ← State.raise_lengthMismatch]
  split
  · exact .raised rfl rfl
  split
  · exact .raised rfl rfl
  · exact ending_sessionCommand rfl (leaveEmitted_err s) (leaveEmitted_mode s)

theorem ending_pushAudio (hm : s.mode = .mux) : Ending (.pushAudio o) s (exec (.pushAudio o) s) := by
  rw [exec_pushAudio_of_mux hm, ← State.raise_badOperand]
  split
  · exact .raised rfl rfl
  split
  · exact .fifoFull
  · refine ending_sessionCommand rfl ?_ ?_
    · exact (fifoWrite_err _ _ _).trans (leaveEmitted_err s)
    · exact (fifoWrite_mode _ _ _).trans (leaveEmitted_mode s)

/-- Emission ends with the frame, with NOT_READY, or with the model's fault (R268). -/
theorem ending_emit {u : State} (herr : u.err = s.err) (hmode : u.mode = s.mode) :
    Ending (.tryEmitFrame o) s (emit u) := by
  rcases emit_cases u with ⟨-, -, hout⟩ | ⟨-, F, -, hout⟩ | ⟨-, hout⟩ <;> rw [hout]
  · exact .fault
  · exact .ok herr hmode
  · exact .notReady herr hmode

theorem ending_tryEmitFrame (hm : s.mode = .mux) : Ending (.tryEmitFrame o) s (exec (.tryEmitFrame o) s) := by
  show Ending _ _ (tryEmitFrame o s)
  rw [tryEmitFrame, modeRefusal_self hm (by decide)]
  dsimp only
  split
  · exact .raised rfl rfl
  split
  · exact .raised rfl rfl
  split
  · next he => rw [evaluate_raised he]; exact .raised rfl rfl
  · exact .fault
  · next hu =>
    exact ending_emit o ((evaluate_err hu).trans (leaveEmitted_err s))
      ((evaluate_keeps hu).1.trans (leaveEmitted_mode s))

theorem ending_setRecdt (hm : s.mode = .mux) : Ending (.setRecdt o) s (exec (.setRecdt o) s) := by
  show Ending _ _ (execSetRecdt o s)
  rw [execSetRecdt, modeRefusal_self hm (by decide)]
  dsimp only
  split
  · exact .raised rfl rfl
  split
  · exact .raised rfl rfl
  split
  · exact .raised rfl rfl
  · exact .ok rfl rfl

theorem ending_feedFrame (hm : s.mode = .demux) : Ending (.feedFrame o) s (exec (.feedFrame o) s) := by
  show Ending _ _ (feed o s)
  rw [feed, modeRefusal_self hm (by decide)]
  dsimp only
  split
  · exact .raised rfl rfl
  unfold feedFrame
  split
  · exact .raised rfl rfl
  split
  · exact .fatal rfl
  split
  · exact .fatal rfl
  split
  · exact .fatal rfl
  split
  · exact .raised rfl rfl
  dsimp only
  split
  · next he => exact .fatal (audioParams_error he)
  · exact .ok (frameFed_err _ _ _) (frameFed_mode _ _ _)

theorem ending_close : Ending (.close o) s (exec (.close o) s) := by
  show Ending _ _ (execClose o s)
  unfold execClose
  split
  · exact .raised rfl rfl
  split
  · exact .raised rfl rfl
  · exact .ok (State.cleared_err s) (State.cleared_mode s)

theorem ending_readStatus : Ending (.readStatus o) s (exec (.readStatus o) s) := by
  show Ending _ _ (execReadStatus o s)
  unfold execReadStatus
  split
  · exact .raised rfl rfl
  split
  · exact .raised rfl rfl
  · exact .ok rfl rfl

end Commands

/-- Every command has one of the endings when its mode is legal. -/
theorem exec_ending {i : Instr} {s : State} (hi : formatOf i = .cmd) (hm : s.mode ∈ legalModes i) :
    Ending i s (exec i s) := by
  cases i with
  | openMux o => exact ending_openMux o (List.mem_singleton.1 hm)
  | openDemux o => exact ending_openDemux o (List.mem_singleton.1 hm)
  | pushVideo o => exact ending_pushVideo o (List.mem_singleton.1 hm)
  | pushAudio o => exact ending_pushAudio o (List.mem_singleton.1 hm)
  | tryEmitFrame o => exact ending_tryEmitFrame o (List.mem_singleton.1 hm)
  | setRecdt o => exact ending_setRecdt o (List.mem_singleton.1 hm)
  | feedFrame o => exact ending_feedFrame o (List.mem_singleton.1 hm)
  | close o => exact ending_close o
  | readStatus o => exact ending_readStatus o
  | profileSelect | profileDetect | kindLookup | packEnc | packDec | tcDerive | formatFrame | injectVideo
  | injectAudio | extractVideo | extractAudio | extractPack | expand12 | unpack12 | shufAddr =>
    exact ending_of_isPure rfl s
  | _ => cases hi

/-- Everything with which a command can end: refused for the mode, or with an ending of its own in a legal mode. -/
theorem exec_cases {i : Instr} {s t : State} (hi : formatOf i = .cmd) (h : exec i s = .next t) :
    (s.mode ∉ legalModes i ∧ t = s.raise (modeKind s)) ∨ (s.mode ∈ legalModes i ∧ Ending i s (.next t)) := by
  by_cases hm : s.mode ∈ legalModes i
  · exact .inr ⟨hm, h ▸ exec_ending hi hm⟩
  · exact .inl ⟨hm, (Host.Outcome.next.inj ((exec_of_not_mem_legalModes hm).symm.trans h)).symm⟩

/-! ### What follows from the ending -/

theorem not_reportsCondition_ok (ra : Byte) (v : List Byte) : ¬ reportsCondition ⟨.ok, 0, ra, v⟩ := by
  simp [reportsCondition]

theorem not_reportsCondition_notReady : ¬ reportsCondition ⟨.notReady, 0, 0, []⟩ := by simp [reportsCondition]

/-- `ERR` and the response agree as R334 says. -/
def ErrFollows (i : Instr) (s t : State) : Prop :=
  ∃ r, t.response = some r ∧ (reportsCondition r → t.err = r.code) ∧ (¬ reportsCondition r → t.err = errAfter i s)

theorem errFollows_of_kindResponse {i : Instr} {s t : State} {k : Kind} (hr : t.response = some (kindResponse k))
    (herr : t.err = kindCode k) : ErrFollows i s t :=
  ⟨_, hr, fun _ => herr, fun hno => absurd (reportsCondition_kindResponse k) hno⟩

theorem Ending.errFollows {i : Instr} {s t : State} (h : Ending i s (.next t)) : ErrFollows i s t := by
  generalize hout : Host.Outcome.next t = out at h
  cases h with
  | ok herr _ => cases hout; exact ⟨_, rfl, fun hc => absurd hc (not_reportsCondition_ok _ _), fun _ => herr⟩
  | notReady herr _ =>
    cases hout
    exact ⟨_, rfl, fun hc => absurd hc not_reportsCondition_notReady, fun _ => herr⟩
  | raised | fifoFull | fatal => cases hout; exact errFollows_of_kindResponse rfl rfl
  | fault => cases hout

/-- The state after a condition, with the two exceptions of R328. -/
def preciseState (i : Instr) (s : State) (r : Response) : State :=
  { s with
    err := r.code
    response := some r
    mode := match i with
      | .feedFrame _ => if r.cls = .error then .failed else s.mode
      | _ => s.mode
    aovf := match i with
      | .pushAudio _ => s.aovf || r.code == 0x16
      | _ => s.aovf }

theorem kindCode_eq_fifoFull {k : Kind} : kindCode k = 0x16 ↔ k = .fifoFull := by cases k <;> decide

theorem State.raise_eq_preciseState {i : Instr} {k : Kind} (h : raisesAlone i k = true) (s : State) :
    s.raise k = preciseState i s (kindResponse k) := by
  cases i with
  | feedFrame o =>
    have hclass : (kindResponse k).cls ≠ .error := of_decide_eq_true h
    simp only [preciseState, if_neg hclass]
    rfl
  | pushAudio o =>
    have hcode : ((kindResponse k).code == 0x16) = false :=
      beq_eq_false_iff_ne.2 (mt kindCode_eq_fifoFull.1 (of_decide_eq_true h))
    simp only [preciseState, hcode, Bool.or_false]
    rfl
  | _ => rfl

/-- A refusal for the mode is none of the exceptions. -/
theorem raisesAlone_modeKind (i : Instr) (s : State) : raisesAlone i (modeKind s) = true := by
  have hk : modeKind s = .sessionFailed ∨ modeKind s = .badMode := ite_eq_or_eq _ _ _
  cases i with
  | feedFrame | pushAudio => rcases hk with hk | hk <;> rw [hk] <;> rfl
  | _ => rfl

theorem Ending.eq_preciseState {i : Instr} {s t : State} {r : Response} (h : Ending i s (.next t))
    (hr : t.response = some r) (hc : reportsCondition r) : t = preciseState i s r := by
  generalize hout : Host.Outcome.next t = out at h
  cases h with
  | ok => cases hout; cases hr; exact absurd hc (not_reportsCondition_ok _ _)
  | notReady => cases hout; cases hr; exact absurd hc not_reportsCondition_notReady
  | raised _ halone => cases hout; cases hr; exact State.raise_eq_preciseState halone s
  | fifoFull =>
    cases hout
    cases hr
    simp only [preciseState, kindResponse, kindCode, BEq.rfl, Bool.or_true]
    rfl
  | fatal hclass =>
    cases hout
    cases hr
    simp only [preciseState, kindResponse, hclass, if_true]
    simp only [State.raiseFatal, State.raise, kindResponse, hclass]
  | fault => cases hout

theorem kindCode_ne_of_not_isModeKind {k : Kind} (h : isModeKind k = false) :
    kindCode k ≠ 0x11 ∧ kindCode k ≠ 0x17 := by
  cases k with
  | badMode | sessionFailed => cases h
  | _ => decide

theorem Ending.code_ne {i : Instr} {s t : State} {r : Response} (h : Ending i s (.next t))
    (hr : t.response = some r) : r.code ≠ 0x11 ∧ r.code ≠ 0x17 := by
  generalize hout : Host.Outcome.next t = out at h
  cases h with
  | ok | notReady =>
    cases hout
    cases hr
    show (0 : Byte) ≠ 0x11 ∧ (0 : Byte) ≠ 0x17
    decide
  | raised hk _ => cases hout; cases hr; exact kindCode_ne_of_not_isModeKind hk
  | fifoFull => cases hout; cases hr; exact ⟨by decide, by decide⟩
  | fatal hclass =>
    cases hout
    cases hr
    exact kindCode_ne_of_not_isModeKind (isModeKind_of_error hclass)
  | fault => cases hout

/-- What changes `MODE` inside the legal modes: a success of the three commands that R335 names, or a fatal frame. -/
theorem Ending.mode_cases {i : Instr} {s t : State} (h : Ending i s (.next t)) (hne : t.mode ≠ s.mode) :
    ∃ r, t.response = some r ∧
      ((r.cls = .ok ∧ t.mode = modeAfter i s) ∨ (∃ o, i = .feedFrame o ∧ t.mode = .failed ∧ r.cls = .error)) := by
  generalize hout : Host.Outcome.next t = out at h
  cases h with
  | ok _ hmode => cases hout; exact ⟨_, rfl, .inl ⟨rfl, hmode⟩⟩
  | notReady _ hmode => cases hout; exact absurd hmode hne
  | raised | fifoFull => cases hout; exact absurd rfl hne
  | fatal hclass => cases hout; exact ⟨_, rfl, .inr ⟨_, rfl, rfl, hclass⟩⟩
  | fault => cases hout

/-- A row of the opcode table that is no command changes nothing of a session. -/
theorem sameSession_of_not_command {i : Instr} {s t : State} (hi : formatOf i ≠ .cmd) (h : exec i s = .next t) :
    SameSession s t := by
  have he := exec_effect i s
  generalize hout : exec i s = out at he
  rw [h] at hout
  cases he with
  | same hst => cases hout; exact hst
  | _ => exact absurd rfl hi

end Sys2Proof.Machine

/-! ### The statements -/

namespace Sys2Proof.Proofs

open Sys2Proof.Machine Sys2Proof.Safety

/-- Settles O11: by the ending of the command; an unknown opcode raises BadOpcode, a reset leaves the reset state. -/
theorem errHoldsTheLastCondition : Obligations.ErrHoldsTheLastCondition := by
  refine ⟨fun i s t hi hexec => ?_, fun s t bs rest hin hdec hstep => ?_, fun s t rest hin hstep => ?_, rfl⟩
  · have herr : ErrFollows i s t := by
      rcases exec_cases hi hexec with ⟨-, rfl⟩ | ⟨-, hend⟩
      · exact errFollows_of_kindResponse rfl rfl
      · exact hend.errFollows
    exact herr
  · rw [step_of_inbox_transfer hin, runTransfer, runTransferBy, hdec] at hstep
    cases hstep
    exact ⟨rfl, _, rfl, rfl, reportsCondition_kindResponse .badOpcode⟩
  · cases (step_of_reset (.inl hin)).symm.trans hstep
    rfl

/-- Settles O12: by the ending of the command; a refusal for the mode is none of the exceptions. -/
theorem refusalsArePrecise : Obligations.RefusalsArePrecise := by
  intro i s t r hi hexec hr hc
  have hprecise : t = preciseState i s r := by
    rcases exec_cases hi hexec with ⟨-, rfl⟩ | ⟨-, hend⟩
    · cases hr
      exact State.raise_eq_preciseState (raisesAlone_modeKind i s) s
    · exact hend.eq_preciseState hr hc
  exact hprecise

/-- Settles O13: the mode is tested before everything else, and no ending in a legal mode has a code of the mode. -/
theorem legalCommandsPerMode : Obligations.LegalCommandsPerMode := by
  refine fun i s hi => ⟨fun hm => ?_, fun hm t r hexec hr => ?_⟩
  · rw [exec_of_not_mem_legalModes hm, modeKind]
    split
    · rw [State.raise_sessionFailed]
    · rw [State.raise_badMode]
  · have hend := exec_ending hi hm
    rw [hexec] at hend
    exact hend.code_ne hr

/-- Settles O14: a refusal for the mode keeps it, so the mode that changes is a legal one of the command. -/
theorem modeTransitions : Obligations.ModeTransitions := by
  intro i s t hexec hne
  by_cases hi : formatOf i = .cmd
  · rcases exec_cases hi hexec with ⟨-, rfl⟩ | ⟨hlegal, hend⟩
    · exact absurd rfl hne
    obtain ⟨r, hr, ⟨hok, hmode⟩ | ⟨o, rfl, hmode, herror⟩⟩ := hend.mode_cases hne
    · refine ⟨r, hr, ?_⟩
      cases i with
      | openMux o => exact .inl ⟨o, rfl, List.mem_singleton.1 hlegal, hmode, hok⟩
      | openDemux o => exact .inr (.inl ⟨o, rfl, List.mem_singleton.1 hlegal, hmode, hok⟩)
      | close o => exact .inr (.inr (.inr ⟨o, rfl, hmode, hok⟩))
      | _ => exact absurd hmode hne
    · exact ⟨r, hr, .inr (.inr (.inl ⟨o, rfl, List.mem_singleton.1 hlegal, hmode, herror⟩))⟩
  · have hsame := sameSession_of_not_command hi hexec
    exact absurd (congrArg State.mode hsame) hne

end Sys2Proof.Proofs
end
